-- ==== Sys2Proof/Word.lean ====
section
/-! DEFINITION. The word types of the block: bytes, 16-bit CRC values, port addresses and
access words. All values are unsigned (spec/00_scope.md R7, R9). -/

namespace Sys2Proof

/-- `u8`: one byte (spec/00_scope.md R7). -/
abbrev Byte := BitVec 8

/-- `u16`: a CRC value (spec/00_scope.md R7). -/
abbrev Half := BitVec 16

/-- `acc_addr`: a byte address of the port, `0x000` to `0x3FF` (spec/20_memory.md R60, R62). -/
abbrev PortAddr := BitVec 10

/-- A 19-bit access word in the format ACC19 (spec/30_encoding.md R80). -/
abbrev AccessWord := BitVec 19

end Sys2Proof
end

