-- ==== Sys2Proof/Syntax.lean ====
section
/-! DEFINITION. The block's instructions: the host accesses of spec/30_encoding.md R81, R84 and
R85, one constructor per row of spec/opcode_table.json. -/

namespace Sys2Proof

/-- One host access. Commands take no operand, writes to ports and registers take the DATA byte,
the window reads take the index `i = ADDR[7:0]`, and the catch-all accesses take what their rule
calls operands (spec/30_encoding.md R86; spec/43_control.md R203, R206, R207). -/
inductive Instr where
  /-- NOP, `WR CMD, 0x00` (spec/43_control.md R200). -/
  | nop
  /-- CRC_INIT, `WR CMD, 0x01` (spec/40_crc.md R103). -/
  | crcInit
  /-- RX_CLEAR, `WR CMD, 0x02` (spec/42_frame_rx.md R150). -/
  | rxClear
  /-- TX_START, `WR CMD, 0x03` (spec/41_frame_tx.md R130). -/
  | txStart
  /-- TX_SEAL, `WR CMD, 0x04` (spec/41_frame_tx.md R132). -/
  | txSeal
  /-- DECODE, `WR CMD, 0x05` (spec/42_frame_rx.md R160). -/
  | decode
  /-- CHECK, `WR CMD, 0x06` (spec/42_frame_rx.md R161). -/
  | check
  /-- ERR_CLEAR, `WR CMD, 0x07` (spec/43_control.md R201). -/
  | errClear
  /-- SOFT_RESET, `WR CMD, 0x08` (spec/43_control.md R202). -/
  | softReset
  /-- WR_CRC_IN, `WR CRC_IN, b` (spec/40_crc.md R104). -/
  | wrCrcIn (b : Byte)
  /-- WR_REQ_ADDR, `WR REQ_ADDR, a` (spec/41_frame_tx.md R122). -/
  | wrReqAddr (a : Byte)
  /-- WR_REQ_FC, `WR REQ_FC, f` (spec/41_frame_tx.md R124). -/
  | wrReqFc (f : Byte)
  /-- WR_RX_IN, `WR RX_IN, b` (spec/42_frame_rx.md R151). -/
  | wrRxIn (b : Byte)
  /-- WR_TX_IN, `WR TX_IN, b` (spec/41_frame_tx.md R131). -/
  | wrTxIn (b : Byte)
  /-- CMD_RSVD, a write to CMD of a reserved opcode `op`, `0x09` to `0xFF`
  (spec/43_control.md R203). -/
  | cmdRsvd (op : Byte)
  /-- WR_IGNORED, a write of `d` to a read-only or reserved address `a`
  (spec/43_control.md R207). -/
  | wrIgnored (a : PortAddr) (d : Byte)
  /-- RD_STATUS (spec/43_control.md R205). -/
  | rdStatus
  /-- RD_CRC_HI (spec/40_crc.md R105). -/
  | rdCrcHi
  /-- RD_CRC_LO (spec/40_crc.md R106). -/
  | rdCrcLo
  /-- RD_REQ_ADDR (spec/41_frame_tx.md R123). -/
  | rdReqAddr
  /-- RD_REQ_FC (spec/41_frame_tx.md R125). -/
  | rdReqFc
  /-- RD_EXP_LEN (spec/41_frame_tx.md R126). -/
  | rdExpLen
  /-- RD_RX_LEN (spec/42_frame_rx.md R152). -/
  | rdRxLen
  /-- RD_TX_LEN (spec/41_frame_tx.md R133). -/
  | rdTxLen
  /-- RD_RESULT (spec/42_frame_rx.md R170). -/
  | rdResult
  /-- RD_RSP_ADDR (spec/42_frame_rx.md R171). -/
  | rdRspAddr
  /-- RD_RSP_FC (spec/42_frame_rx.md R172). -/
  | rdRspFc
  /-- RD_DEV_ERR (spec/42_frame_rx.md R173). -/
  | rdDevErr
  /-- RD_DEV_CLASS (spec/42_frame_rx.md R174). -/
  | rdDevClass
  /-- RD_CRC_EXP_HI (spec/42_frame_rx.md R175). -/
  | rdCrcExpHi
  /-- RD_CRC_EXP_LO (spec/42_frame_rx.md R176). -/
  | rdCrcExpLo
  /-- RD_CRC_GOT_HI (spec/42_frame_rx.md R177). -/
  | rdCrcGotHi
  /-- RD_CRC_GOT_LO (spec/42_frame_rx.md R178). -/
  | rdCrcGotLo
  /-- RD_PAY_LEN (spec/42_frame_rx.md R179). -/
  | rdPayLen
  /-- RD_RX_WIN, `RD RX_WIN[i]` (spec/42_frame_rx.md R153). -/
  | rdRxWin (i : Byte)
  /-- RD_TX_WIN, `RD TX_WIN[i]` (spec/41_frame_tx.md R134). -/
  | rdTxWin (i : Byte)
  /-- RD_ZERO, a read of a write-only or reserved address `a` (spec/43_control.md R206). -/
  | rdZero (a : PortAddr)
  deriving DecidableEq, Repr

end Sys2Proof
end

