-- ==== Sys2Proof/WellFormed.lean ====
section
/-! DEFINITION. Which instructions name an access of the block: the operand ranges of
spec/opcode_table.json's three catch-all rows. Every other operand has its whole range. -/

namespace Sys2Proof

/-- The addresses a write acts on: 0x000, 0x002, 0x005, 0x006, 0x008 and 0x00A
(spec/30_encoding.md R84). -/
def isWritable (a : PortAddr) : Bool :=
  a == 0x000#10 || a == 0x002#10 || a == 0x005#10 || a == 0x006#10 || a == 0x008#10 ||
    a == 0x00A#10

/-- The addresses that are write-only or reserved for a read: 0x000, 0x002, 0x008, 0x00A,
0x016 to 0x0FF and 0x300 to 0x3FF (spec/43_control.md R206). -/
def readsAsZero (a : PortAddr) : Bool :=
  a == 0x000#10 || a == 0x002#10 || a == 0x008#10 || a == 0x00A#10 ||
    (decide (0x016#10 ≤ a) && decide (a ≤ 0x0FF#10)) || decide (0x300#10 ≤ a)

/-- The instruction is one the encoding can express: a reserved opcode is 0x09 or more, an
ignored write goes to an address no write acts on, and a zero read to an address the read map
leaves out (spec/43_control.md R203, R206, R207). -/
def Instr.wf : Instr → Bool
  | .cmdRsvd op => decide (0x09#8 ≤ op)
  | .wrIgnored a _ => !isWritable a
  | .rdZero a => readsAsZero a
  | .nop | .crcInit | .rxClear | .txStart | .txSeal | .decode | .check | .errClear
  | .softReset => true
  | .wrCrcIn _ | .wrReqAddr _ | .wrReqFc _ | .wrRxIn _ | .wrTxIn _ => true
  | .rdStatus | .rdCrcHi | .rdCrcLo | .rdReqAddr | .rdReqFc | .rdExpLen | .rdRxLen
  | .rdTxLen => true
  | .rdResult | .rdRspAddr | .rdRspFc | .rdDevErr | .rdDevClass | .rdCrcExpHi | .rdCrcExpLo
  | .rdCrcGotHi | .rdCrcGotLo | .rdPayLen => true
  | .rdRxWin _ | .rdTxWin _ => true

end Sys2Proof
end

