-- ==== Sys2Proof/Decode.lean ====
section
/-! DEFINITION. The access-word decoder of spec/30_encoding.md R87, total on the 2^19 words; the
rejection by name of a number that is no access word; the opcode table of R92 and its decoder by
priority; and the encoder of R80, R81, R84 and R85. -/

namespace Sys2Proof

/-! ### The fields of an access word (spec/30_encoding.md R80, R86) -/

/-- `RW`, bit 18: true for a write (`acc_we`). -/
def rwField (w : AccessWord) : Bool := w.getLsbD 18

/-- `ADDR`, bits 17:8 (`acc_addr`). -/
def addrField (w : AccessWord) : PortAddr := w.extractLsb' 8 10

/-- `DATA`, bits 7:0 (`acc_wdata`). -/
def dataField (w : AccessWord) : Byte := w.extractLsb' 0 8

/-- The window index `i = ADDR[7:0]` of an address. -/
def windowIndex (a : PortAddr) : Byte := a.extractLsb' 0 8

/-- The window index of an access word, its bits 15:8. -/
def windowField (w : AccessWord) : Byte := w.extractLsb' 8 8

/-! ### The decoder (spec/30_encoding.md R81, R84, R85, R87) -/

/-- The command a write of `op` to CMD selects: the nine assigned opcodes, else CMD_RSVD
(spec/30_encoding.md R81, R82). -/
def decodeCommand (op : Byte) : Instr :=
  if op = 0x00#8 then .nop
  else if op = 0x01#8 then .crcInit
  else if op = 0x02#8 then .rxClear
  else if op = 0x03#8 then .txStart
  else if op = 0x04#8 then .txSeal
  else if op = 0x05#8 then .decode
  else if op = 0x06#8 then .check
  else if op = 0x07#8 then .errClear
  else if op = 0x08#8 then .softReset
  else .cmdRsvd op

/-- A write access by its address (spec/30_encoding.md R84). -/
def decodeWrite (a : PortAddr) (d : Byte) : Instr :=
  if a = 0x000#10 then decodeCommand d
  else if a = 0x002#10 then .wrCrcIn d
  else if a = 0x005#10 then .wrReqAddr d
  else if a = 0x006#10 then .wrReqFc d
  else if a = 0x008#10 then .wrRxIn d
  else if a = 0x00A#10 then .wrTxIn d
  else .wrIgnored a d

/-- A read access by its address; the DATA field plays no part (spec/30_encoding.md R85, R88). -/
def decodeRead (a : PortAddr) : Instr :=
  if a = 0x001#10 then .rdStatus
  else if a = 0x003#10 then .rdCrcHi
  else if a = 0x004#10 then .rdCrcLo
  else if a = 0x005#10 then .rdReqAddr
  else if a = 0x006#10 then .rdReqFc
  else if a = 0x007#10 then .rdExpLen
  else if a = 0x009#10 then .rdRxLen
  else if a = 0x00B#10 then .rdTxLen
  else if a = 0x00C#10 then .rdResult
  else if a = 0x00D#10 then .rdRspAddr
  else if a = 0x00E#10 then .rdRspFc
  else if a = 0x00F#10 then .rdDevErr
  else if a = 0x010#10 then .rdDevClass
  else if a = 0x011#10 then .rdCrcExpHi
  else if a = 0x012#10 then .rdCrcExpLo
  else if a = 0x013#10 then .rdCrcGotHi
  else if a = 0x014#10 then .rdCrcGotLo
  else if a = 0x015#10 then .rdPayLen
  else if 0x100#10 ≤ a ∧ a ≤ 0x1FF#10 then .rdRxWin (windowIndex a)
  else if 0x200#10 ≤ a ∧ a ≤ 0x2FF#10 then .rdTxWin (windowIndex a)
  else .rdZero a

/-- The decoder: every access word is exactly one instruction (spec/30_encoding.md R87). -/
def decode (w : AccessWord) : Instr :=
  if rwField w then decodeWrite (addrField w) (dataField w) else decodeRead (addrField w)

/-- Why a number is refused by the decoder. -/
inductive DecodeError where
  /-- The number has a bit above bit 18. Every access word has 19 bits (spec/30_encoding.md R89). -/
  | notAnAccessWord
  deriving DecidableEq, Repr

/-- The access word a number writes (spec/30_encoding.md R80). -/
def accessWordOf (n : Nat) : Except DecodeError AccessWord :=
  if n < 2 ^ 19 then .ok (BitVec.ofNat 19 n) else .error .notAnAccessWord

/-- The instruction a number writes, or the reason there is none. -/
def decodeNat (n : Nat) : Except DecodeError Instr :=
  match accessWordOf n with
  | .ok w => .ok (decode w)
  | .error e => .error e

/-- The instruction whose bits are `w`, numbered as spec/opcode_table.json numbers them: the
table's one word is the access word itself. Bits at `nbits` and above are zero. -/
def decodeTableWord (nbits w : Nat) : Option Instr :=
  match decodeNat (w % 2 ^ nbits) with
  | .ok i => some i
  | .error _ => none

/-! ### The encoder (spec/30_encoding.md R80) -/

/-- The access word with the fields RW, ADDR and DATA: `(RW << 18) or (ADDR << 8) or DATA`. -/
def accessWord (rw : Bool) (a : PortAddr) (d : Byte) : AccessWord :=
  (BitVec.ofBool rw).setWidth 19 <<< 18 ||| a.setWidth 19 <<< 8 ||| d.setWidth 19

/-- `WR CMD, op` (spec/30_encoding.md R81). -/
def encodeCommand (op : Byte) : AccessWord := accessWord true 0x000#10 op

/-- `RD a`, in the canonical form with DATA = 0 (spec/30_encoding.md R80). -/
def encodeRead (a : PortAddr) : AccessWord := accessWord false a 0x00#8

/-- The access word of an instruction (spec/30_encoding.md R81, R84, R85). -/
def encode : Instr → AccessWord
  | .nop => encodeCommand 0x00#8
  | .crcInit => encodeCommand 0x01#8
  | .rxClear => encodeCommand 0x02#8
  | .txStart => encodeCommand 0x03#8
  | .txSeal => encodeCommand 0x04#8
  | .decode => encodeCommand 0x05#8
  | .check => encodeCommand 0x06#8
  | .errClear => encodeCommand 0x07#8
  | .softReset => encodeCommand 0x08#8
  | .cmdRsvd op => encodeCommand op
  | .wrCrcIn b => accessWord true 0x002#10 b
  | .wrReqAddr a => accessWord true 0x005#10 a
  | .wrReqFc f => accessWord true 0x006#10 f
  | .wrRxIn b => accessWord true 0x008#10 b
  | .wrTxIn b => accessWord true 0x00A#10 b
  | .wrIgnored a d => accessWord true a d
  | .rdStatus => encodeRead 0x001#10
  | .rdCrcHi => encodeRead 0x003#10
  | .rdCrcLo => encodeRead 0x004#10
  | .rdReqAddr => encodeRead 0x005#10
  | .rdReqFc => encodeRead 0x006#10
  | .rdExpLen => encodeRead 0x007#10
  | .rdRxLen => encodeRead 0x009#10
  | .rdTxLen => encodeRead 0x00B#10
  | .rdResult => encodeRead 0x00C#10
  | .rdRspAddr => encodeRead 0x00D#10
  | .rdRspFc => encodeRead 0x00E#10
  | .rdDevErr => encodeRead 0x00F#10
  | .rdDevClass => encodeRead 0x010#10
  | .rdCrcExpHi => encodeRead 0x011#10
  | .rdCrcExpLo => encodeRead 0x012#10
  | .rdCrcGotHi => encodeRead 0x013#10
  | .rdCrcGotLo => encodeRead 0x014#10
  | .rdPayLen => encodeRead 0x015#10
  | .rdRxWin i => encodeRead (0x100#10 + i.setWidth 10)
  | .rdTxWin i => encodeRead (0x200#10 + i.setWidth 10)
  | .rdZero a => encodeRead a

/-- The canonical form of an access word: a read has DATA = 0 (spec/30_encoding.md R80, R88). -/
def canonicalWord (w : AccessWord) : AccessWord :=
  if rwField w then w else w &&& 0x7FF00#19

/-! ### The opcode table (spec/30_encoding.md R92, spec/opcode_table.json) -/

/-- One row of the table: a word `w` matches when `w and mask = pat`. -/
structure OpRow where
  mnemonic : String
  pat : AccessWord
  mask : AccessWord
  priority : Nat
  instr : AccessWord → Instr

/-- The word matches the row (spec/30_encoding.md R92). -/
def OpRow.fits (r : OpRow) (w : AccessWord) : Bool := w &&& r.mask == r.pat

/-- The rows of the commands, of the port and register writes, and of the other writes. -/
def writeRows : List OpRow :=
  [
    ⟨"NOP", 0x40000#19, 0x7FFFF#19, 0, fun _ => .nop⟩,
    ⟨"CRC_INIT", 0x40001#19, 0x7FFFF#19, 0, fun _ => .crcInit⟩,
    ⟨"RX_CLEAR", 0x40002#19, 0x7FFFF#19, 0, fun _ => .rxClear⟩,
    ⟨"TX_START", 0x40003#19, 0x7FFFF#19, 0, fun _ => .txStart⟩,
    ⟨"TX_SEAL", 0x40004#19, 0x7FFFF#19, 0, fun _ => .txSeal⟩,
    ⟨"DECODE", 0x40005#19, 0x7FFFF#19, 0, fun _ => .decode⟩,
    ⟨"CHECK", 0x40006#19, 0x7FFFF#19, 0, fun _ => .check⟩,
    ⟨"ERR_CLEAR", 0x40007#19, 0x7FFFF#19, 0, fun _ => .errClear⟩,
    ⟨"SOFT_RESET", 0x40008#19, 0x7FFFF#19, 0, fun _ => .softReset⟩] ++ [
    ⟨"WR_CRC_IN", 0x40200#19, 0x7FF00#19, 1, fun w => .wrCrcIn (dataField w)⟩,
    ⟨"WR_REQ_ADDR", 0x40500#19, 0x7FF00#19, 1, fun w => .wrReqAddr (dataField w)⟩,
    ⟨"WR_REQ_FC", 0x40600#19, 0x7FF00#19, 1, fun w => .wrReqFc (dataField w)⟩,
    ⟨"WR_RX_IN", 0x40800#19, 0x7FF00#19, 1, fun w => .wrRxIn (dataField w)⟩,
    ⟨"WR_TX_IN", 0x40A00#19, 0x7FF00#19, 1, fun w => .wrTxIn (dataField w)⟩,
    ⟨"CMD_RSVD", 0x40000#19, 0x7FF00#19, 2, fun w => .cmdRsvd (dataField w)⟩,
    ⟨"WR_IGNORED", 0x40000#19, 0x40000#19, 3, fun w => .wrIgnored (addrField w) (dataField w)⟩]

/-- The rows of the reads. -/
def readRows : List OpRow :=
  [
    ⟨"RD_STATUS", 0x00100#19, 0x7FF00#19, 1, fun _ => .rdStatus⟩,
    ⟨"RD_CRC_HI", 0x00300#19, 0x7FF00#19, 1, fun _ => .rdCrcHi⟩,
    ⟨"RD_CRC_LO", 0x00400#19, 0x7FF00#19, 1, fun _ => .rdCrcLo⟩,
    ⟨"RD_REQ_ADDR", 0x00500#19, 0x7FF00#19, 1, fun _ => .rdReqAddr⟩,
    ⟨"RD_REQ_FC", 0x00600#19, 0x7FF00#19, 1, fun _ => .rdReqFc⟩,
    ⟨"RD_EXP_LEN", 0x00700#19, 0x7FF00#19, 1, fun _ => .rdExpLen⟩,
    ⟨"RD_RX_LEN", 0x00900#19, 0x7FF00#19, 1, fun _ => .rdRxLen⟩,
    ⟨"RD_TX_LEN", 0x00B00#19, 0x7FF00#19, 1, fun _ => .rdTxLen⟩,
    ⟨"RD_RESULT", 0x00C00#19, 0x7FF00#19, 1, fun _ => .rdResult⟩,
    ⟨"RD_RSP_ADDR", 0x00D00#19, 0x7FF00#19, 1, fun _ => .rdRspAddr⟩] ++ [
    ⟨"RD_RSP_FC", 0x00E00#19, 0x7FF00#19, 1, fun _ => .rdRspFc⟩,
    ⟨"RD_DEV_ERR", 0x00F00#19, 0x7FF00#19, 1, fun _ => .rdDevErr⟩,
    ⟨"RD_DEV_CLASS", 0x01000#19, 0x7FF00#19, 1, fun _ => .rdDevClass⟩,
    ⟨"RD_CRC_EXP_HI", 0x01100#19, 0x7FF00#19, 1, fun _ => .rdCrcExpHi⟩,
    ⟨"RD_CRC_EXP_LO", 0x01200#19, 0x7FF00#19, 1, fun _ => .rdCrcExpLo⟩,
    ⟨"RD_CRC_GOT_HI", 0x01300#19, 0x7FF00#19, 1, fun _ => .rdCrcGotHi⟩,
    ⟨"RD_CRC_GOT_LO", 0x01400#19, 0x7FF00#19, 1, fun _ => .rdCrcGotLo⟩,
    ⟨"RD_PAY_LEN", 0x01500#19, 0x7FF00#19, 1, fun _ => .rdPayLen⟩,
    ⟨"RD_RX_WIN", 0x10000#19, 0x70000#19, 1, fun w => .rdRxWin (windowField w)⟩,
    ⟨"RD_TX_WIN", 0x20000#19, 0x70000#19, 1, fun w => .rdTxWin (windowField w)⟩,
    ⟨"RD_ZERO", 0x00000#19, 0x40000#19, 3, fun w => .rdZero (addrField w)⟩]

/-- The 37 rows of spec/opcode_table.json. -/
def opcodeTable : List OpRow := writeRows ++ readRows

/-- The row of lowest priority number among those the word matches. -/
def bestRow (w : AccessWord) : List OpRow → Option OpRow
  | [] => none
  | r :: rs =>
    match bestRow w rs with
    | none => if r.fits w then some r else none
    | some b => if r.fits w && decide (r.priority ≤ b.priority) then some r else some b

/-- Decoding by the table: the matching row with the lowest priority (spec/30_encoding.md R92). -/
def decodeByTable (w : AccessWord) : Option Instr := (bestRow w opcodeTable).map (·.instr w)

end Sys2Proof
end

