-- ==== Sys2Proof/Config.lean ====
section
/-! DEFINITION. The constants and the size parameter of the block (spec/00_scope.md R4, R5).
The spec leaves no value free: there is no opaque constant here (notes/assumptions/3.md says how
the one open parameter, ACCESS_LATENCY, is treated). -/

namespace Sys2Proof.Config

/-- FRAME_MAX: the bytes each buffer holds, counted over the whole frame with its CRC. "This
spec sets FRAME_MAX = 250" (spec/00_scope.md R4, notes/assumptions/2.md). -/
def frameMax : Nat := 250

/-- MIN_FRAME: the shortest frame the decoder accepts (spec/00_scope.md R5). -/
def minFrame : Nat := 5

/-- TRANSPARENT: the request address that accepts a reply from any device (spec/00_scope.md R5). -/
def transparent : Byte := 250#8

/-- CRC_INIT: the starting value of the CRC register (spec/00_scope.md R5). -/
def crcInit : Half := 0xFFFF#16

/-- CRC_POLY: the constant of the CRC step (spec/00_scope.md R5). -/
def crcPoly : Half := 0xA001#16

/-- ERROR_FC_THRESHOLD: a response function code above it marks a device error
(spec/00_scope.md R5). -/
def errorFcThreshold : Byte := 127#8

end Sys2Proof.Config
end

