-- ==== Sys2Proof/Machine/State.lean ====
section
/-! DEFINITION. The state record of spec/10_state.md R20 with its reset values (R40), the host
port's inputs and outputs of spec/20_memory.md R60, and the reasons a step could stop. -/

namespace Sys2Proof.Machine

/-- The block's whole architectural state: exactly the seventeen fields of spec/10_state.md R20. -/
structure Block where
  /-- `crc`: the CRC engine's register. -/
  crc : Half
  /-- `req_addr`: the request frame's address. -/
  reqAddr : Byte
  /-- `req_fc`: the request frame's function code. -/
  reqFc : Byte
  /-- `tx`: the outbound frame being built. -/
  tx : List Byte
  /-- `tx_sealed`: `tx` has its CRC trailer. -/
  txSealed : Bool
  /-- `rx`: the inbound buffer handed to the decoder. -/
  rx : List Byte
  /-- `rx_ovf`: sticky, a received byte was dropped. -/
  rxOvf : Bool
  /-- `tx_ovf`: sticky, a payload byte was dropped. -/
  txOvf : Bool
  /-- `acc_err`: sticky, a write was ignored. -/
  accErr : Bool
  /-- `result`: the outcome code of the last DECODE or CHECK (spec/10_state.md R33). -/
  result : Byte
  /-- `rsp_addr`: the response frame's address byte. -/
  rspAddr : Byte
  /-- `rsp_fc`: the response frame's function code byte. -/
  rspFc : Byte
  /-- `dev_err`: the raw device error code. -/
  devErr : Byte
  /-- `dev_class`: the classified device error code (spec/10_state.md R34). -/
  devClass : Byte
  /-- `crc_exp`: the CRC recomputed over the frame. -/
  crcExp : Half
  /-- `crc_got`: the CRC read from the frame trailer. -/
  crcGot : Half
  /-- `pay_len`: the payload length of a decoded frame. -/
  payLen : Byte
  deriving DecidableEq, Repr

/-- Every field at its reset value (spec/10_state.md R40). -/
def Block.reset : Block where
  crc := 0xFFFF#16
  reqAddr := 0x00#8
  reqFc := 0x00#8
  tx := []
  txSealed := false
  rx := []
  rxOvf := false
  txOvf := false
  accErr := false
  result := 0x00#8
  rspAddr := 0x00#8
  rspFc := 0x00#8
  devErr := 0x00#8
  devClass := 0x00#8
  crcExp := 0x0000#16
  crcGot := 0x0000#16
  payLen := 0x00#8

/-- What the host drives on the port's inputs for one step (spec/20_memory.md R60). -/
structure PortInput where
  /-- `rst` (spec/70_reset_and_hazards.md R250). -/
  rst : Bool
  /-- `acc_valid` with `acc_we`, `acc_addr` and `acc_wdata` as one access word
  (spec/30_encoding.md R80), or `none` where no access is presented. -/
  access : Option AccessWord
  deriving DecidableEq, Repr

/-- What the block drives on the port's outputs in the step just made (spec/20_memory.md R60). -/
structure PortOutput where
  /-- `acc_ready`: an access completed in that step. -/
  ready : Bool
  /-- `acc_rdata`: the byte a read returned; `none` where the step completed no read. -/
  rdata : Option Byte
  deriving DecidableEq, Repr

/-- The machine: the block's state record, and, because `step` takes no argument, the inputs the
host will drive, the next one first, and the outputs of the last step
(notes/assumptions/1.md). -/
structure State where
  /-- The state record of spec/10_state.md R20. -/
  blk : Block
  /-- The host's coming inputs in the order it presents them (spec/20_memory.md R72). -/
  inputs : List PortInput
  /-- The port's outputs after the last step. -/
  out : PortOutput
  deriving DecidableEq, Repr

/-- The machine right after reset: the record at its reset values, no input waiting, and no access
completed (spec/10_state.md R40, spec/70_reset_and_hazards.md R250). -/
def State.reset : State where
  blk := Block.reset
  inputs := []
  out := ⟨false, none⟩

/-- The reasons the machine stops with a fault: none. "No access faults, traps or hangs"
(spec/00_scope.md R12; spec/30_encoding.md R88; spec/60_exceptions.md R220). -/
inductive Fault where
  deriving DecidableEq, Repr

/-- The reasons an instruction is refused. -/
inductive Refusal where
  /-- Raised by an arm of `exec` whose instruction has no meaning yet, with its mnemonic; no arm
  raises it now. Safe: the machine stops where the block would go on. -/
  | notModelled (mnemonic : String)
  deriving DecidableEq, Repr

end Sys2Proof.Machine
end

