-- ==== Sys2Proof/Machine/Codes.lean ====
section
/-! DEFINITION. The RESULT codes (spec/10_state.md R33), the DEV_CLASS codes (R34), and the
source's error type that a RESULT code stands for (spec/60_exceptions.md R224). -/

namespace Sys2Proof.Machine

/-- NONE: no DECODE or CHECK since reset or the last RX_CLEAR. -/
def resNone : Byte := 0x00#8

/-- OK: the frame decoded and, for CHECK, passed validation. -/
def resOk : Byte := 0x01#8

/-- TOO_SHORT. -/
def resTooShort : Byte := 0x02#8

/-- DEVICE_ERROR. -/
def resDeviceError : Byte := 0x03#8

/-- BAD_CRC. -/
def resBadCrc : Byte := 0x04#8

/-- NONMATCHING_FC. -/
def resNonmatchingFc : Byte := 0x05#8

/-- WRONG_ADDRESS. -/
def resWrongAddress : Byte := 0x06#8

/-- ECHO_MISMATCH, reserved and never written (spec/42_frame_rx.md R164). -/
def resEchoMismatch : Byte := 0x07#8

/-- `classify(code)`: the DEV_CLASS value of a raw device error code (spec/42_frame_rx.md R157). -/
def classify (code : Byte) : Byte :=
  if code = 1#8 then 0x01#8
  else if code = 2#8 then 0x02#8
  else if code = 3#8 then 0x03#8
  else if code = 4#8 then 0x04#8
  else if code = 32#8 then 0x05#8
  else 0x06#8

/-- The source's error categories that concern the block (spec/60_exceptions.md R224). -/
inductive SourceError where
  /-- `FrameError::TooShort`. -/
  | tooShort
  /-- `FrameError::DeviceError(code)`, with the raw code and its class. -/
  | deviceError (code cls : Byte)
  /-- `FrameError::BadCrc`, with the recomputed and the received CRC. -/
  | badCrc (expected got : Half)
  /-- `NonMatchingFunctionCode`. -/
  | nonMatchingFunctionCode
  /-- `WrongAddress`. -/
  | wrongAddress
  /-- `EchoMismatch`, never produced. -/
  | echoMismatch
  deriving DecidableEq, Repr

/-- The source's error that the result registers report; `none` for NONE, OK and the reserved
codes (spec/60_exceptions.md R221, R224). -/
def Block.sourceError (b : Block) : Option SourceError :=
  if b.result = resTooShort then some .tooShort
  else if b.result = resDeviceError then some (.deviceError b.devErr b.devClass)
  else if b.result = resBadCrc then some (.badCrc b.crcExp b.crcGot)
  else if b.result = resNonmatchingFc then some .nonMatchingFunctionCode
  else if b.result = resWrongAddress then some .wrongAddress
  else if b.result = resEchoMismatch then some .echoMismatch
  else none

end Sys2Proof.Machine
end

