-- ==== Sys2Proof/Machine/Operands.lean ====
section
/-! DEFINITION. The operand forms: the two bytes of a 16-bit value, the big-endian trailer, and
the length and the window byte of a buffer (spec/20_memory.md R65, R66; spec/10_state.md R36). -/

namespace Sys2Proof.Machine

/-- `hi(c) = c[15:8]` (spec/00_scope.md R9). -/
def hiByte (c : Half) : Byte := c.extractLsb' 8 8

/-- `lo(c) = c[7:0]` (spec/00_scope.md R9). -/
def loByte (c : Half) : Byte := c.extractLsb' 0 8

/-- `zext_16(b)` (spec/00_scope.md R9). -/
def zext16 (b : Byte) : Half := b.setWidth 16

/-- The 16-bit value two wire bytes write, the high byte first:
`(zext_16(h) << 8) or zext_16(l)` (spec/20_memory.md R65). -/
def bigEndian (h l : Byte) : Half := zext16 h <<< 8 ||| zext16 l

/-- The wire form of a CRC value, the high byte first (spec/40_crc.md R102). -/
def crcTrailer (c : Half) : List Byte := [hiByte c, loByte c]

/-- The byte a window shows at index `i`: `buf[i]`, and 0x00 at or past the length
(spec/10_state.md R36). -/
def byteAt (buf : List Byte) (i : Nat) : Byte := buf.getD i 0x00#8

/-- A buffer's length as the byte RX_LEN and TX_LEN read (spec/10_state.md R31, R32). -/
def lenByte (buf : List Byte) : Byte := BitVec.ofNat 8 buf.length

end Sys2Proof.Machine
end

