-- ==== Sys2Proof/Machine/Codec.lean ====
section
/-! DEFINITION. The pure functions of the block: the CRC (spec/40_crc.md R100, R101), the
reply-length table and the frame encoder (spec/41_frame_tx.md R120, R121), and the frame decoder
with its validation (spec/42_frame_rx.md R158, R159). -/

namespace Sys2Proof.Machine

/-! ### The CRC function -/

/-- One iteration of the CRC step: bit 0 is tested before the shift (spec/40_crc.md R101). -/
def crcShift (r : Half) : Half :=
  if r.getLsbD 0 then (r >>> 1) ^^^ Config.crcPoly else r >>> 1

/-- `n` iterations. -/
def crcShifts : Nat → Half → Half
  | 0, r => r
  | n + 1, r => crcShifts n (crcShift r)

/-- `crc_step(r, b)`: the byte is XORed into the low byte, then 8 iterations (spec/40_crc.md R101). -/
def crcStep (r : Half) (b : Byte) : Half := crcShifts 8 (r ^^^ zext16 b)

/-- The step folded over a byte sequence from index 0 up, from the register value `r`. -/
def crcFold (r : Half) : List Byte → Half
  | [] => r
  | b :: bs => crcFold (crcStep r b) bs

/-- `crc16(bs)` (spec/40_crc.md R100). -/
def crc16 (bs : List Byte) : Half := crcFold Config.crcInit bs

/-- A body followed by its CRC trailer, the high byte first (spec/40_crc.md R102, R108). -/
def withTrailer (body : List Byte) : List Byte := body ++ crcTrailer (crc16 body)

/-! ### The request side -/

/-- `ReplyLen(f)`: the whole-frame length of the reply to function code `f`, 0 where none is
known (spec/41_frame_tx.md R121). -/
def replyLen (f : Byte) : Byte :=
  if f = 30#8 then 8#8
  else if f = 31#8 then 5#8
  else if f = 32#8 then 8#8
  else if f = 33#8 then 5#8
  else if f = 48#8 then 10#8
  else if f = 66#8 then 5#8
  else if f = 67#8 then 8#8
  else if f = 73#8 then 9#8
  else if f = 74#8 then 9#8
  else if f = 95#8 then 5#8
  else 0#8

/-- `encode(a, f, p)`: `[address][function_code][payload...][crc_hi][crc_lo]`
(spec/41_frame_tx.md R120). -/
def encodeFrame (a f : Byte) (p : List Byte) : List Byte := withTrailer ([a, f] ++ p)

/-! ### The receive side -/

/-- The outcome record of `decode` and `validate` (spec/42_frame_rx.md R158). -/
structure FrameOutcome where
  result : Byte
  rspAddr : Byte
  rspFc : Byte
  devErr : Byte
  devClass : Byte
  crcExp : Half
  crcGot : Half
  payLen : Byte
  deriving DecidableEq, Repr

/-- The claimed CRC: the last two bytes of the frame, the high byte first
(spec/42_frame_rx.md R156). -/
def claimedCrc (buf : List Byte) : Half :=
  bigEndian (byteAt buf (buf.length - 2)) (byteAt buf (buf.length - 1))

/-- The CRC recomputed over `buf[0 .. len(buf) - 2]` (spec/42_frame_rx.md R156). -/
def recomputedCrc (buf : List Byte) : Half := crc16 (buf.take (buf.length - 2))

/-- `decode(buf)`, in the source's order of checks: length, device error, CRC
(spec/42_frame_rx.md R154, R155, R156, R158). -/
def decodeFrame (buf : List Byte) : FrameOutcome :=
  if buf.length < Config.minFrame then
    ⟨resTooShort, 0#8, 0#8, 0#8, 0#8, 0#16, 0#16, 0#8⟩
  else if Config.errorFcThreshold < byteAt buf 1 then
    ⟨resDeviceError, byteAt buf 0, byteAt buf 1, byteAt buf 2, classify (byteAt buf 2),
      0#16, 0#16, 0#8⟩
  else if recomputedCrc buf ≠ claimedCrc buf then
    ⟨resBadCrc, byteAt buf 0, byteAt buf 1, 0#8, 0#8, recomputedCrc buf, claimedCrc buf, 0#8⟩
  else
    ⟨resOk, byteAt buf 0, byteAt buf 1, 0#8, 0#8, recomputedCrc buf, claimedCrc buf,
      BitVec.ofNat 8 (buf.length - 4)⟩

/-- `validate(o, ra, rf)`: the codec's error wins, then the function code, then the address unless
the request address is transparent; only `result` changes (spec/42_frame_rx.md R159). -/
def validate (o : FrameOutcome) (ra rf : Byte) : FrameOutcome :=
  if o.result ≠ resOk then o
  else if o.rspFc ≠ rf then { o with result := resNonmatchingFc }
  else if ra ≠ Config.transparent ∧ o.rspAddr ≠ ra then { o with result := resWrongAddress }
  else o

end Sys2Proof.Machine
end

