-- ==== Sys2Proof/Machine/Flags.lean ====
section
/-! DEFINITION. The STATUS byte and its computed bits (spec/10_state.md R22, R26), and the sticky
flags being set and cleared (spec/60_exceptions.md R223). -/

namespace Sys2Proof.Machine

/-- RX_FULL, computed: `len(rx) = FRAME_MAX` (spec/10_state.md R26). -/
def Block.rxFull (b : Block) : Bool := b.rx.length == Config.frameMax

/-- RX_AT_EXP, computed: `ReplyLen(req_fc) ≠ 0` and `len(rx) = ReplyLen(req_fc)`
(spec/10_state.md R26). -/
def Block.rxAtExp (b : Block) : Bool :=
  replyLen b.reqFc != 0#8 && b.rx.length == (replyLen b.reqFc).toNat

/-- A flag as a byte, for the shifts of the STATUS byte. -/
def flagByte (f : Bool) : Byte := (BitVec.ofBool f).setWidth 8

/-- The STATUS byte; bits 7 and 6 read 0 (spec/10_state.md R26). -/
def Block.status (b : Block) : Byte :=
  flagByte b.rxFull <<< 5 ||| flagByte b.rxAtExp <<< 4 ||| flagByte b.txSealed <<< 3 |||
    flagByte b.accErr <<< 2 ||| flagByte b.txOvf <<< 1 ||| flagByte b.rxOvf

/-- `acc_err <- 1` (spec/60_exceptions.md R223). -/
def Block.flagAccErr (b : Block) : Block := { b with accErr := true }

/-- `tx_ovf <- 1` (spec/60_exceptions.md R223). -/
def Block.flagTxOvf (b : Block) : Block := { b with txOvf := true }

/-- `rx_ovf <- 1` (spec/60_exceptions.md R223). -/
def Block.flagRxOvf (b : Block) : Block := { b with rxOvf := true }

/-- The three sticky flags cleared (spec/43_control.md R201). -/
def Block.clearSticky (b : Block) : Block :=
  { b with accErr := false, txOvf := false, rxOvf := false }

end Sys2Proof.Machine
end

