-- ==== Sys2Proof/Machine/Ops.lean ====
section
/-! DEFINITION. The named operations over the block: the CRC accumulator, the request registers,
the two buffers, the result registers, the port's read map, and the completion of an access. The
block has no exception entry and no return from one (spec/60_exceptions.md R220, R227, R228). -/

namespace Sys2Proof.Machine

/-! ### Registers -/

/-- `crc <- v`. -/
def Block.setCrc (b : Block) (v : Half) : Block := { b with crc := v }

/-- `req_addr <- v`. -/
def Block.setReqAddr (b : Block) (v : Byte) : Block := { b with reqAddr := v }

/-- `req_fc <- v`. -/
def Block.setReqFc (b : Block) (v : Byte) : Block := { b with reqFc := v }

/-- RESULT and the seven result registers written together from an outcome
(spec/10_state.md R35; spec/42_frame_rx.md R160). -/
def Block.setOutcome (b : Block) (o : FrameOutcome) : Block :=
  { b with
    result := o.result, rspAddr := o.rspAddr, rspFc := o.rspFc, devErr := o.devErr,
    devClass := o.devClass, crcExp := o.crcExp, crcGot := o.crcGot, payLen := o.payLen }

/-- The outcome record RX_CLEAR leaves in the result registers (spec/42_frame_rx.md R150). -/
def noOutcome : FrameOutcome := ⟨resNone, 0#8, 0#8, 0#8, 0#8, 0#16, 0#16, 0#8⟩

/-! ### Buffers -/

/-- `tx <- bytes`. -/
def Block.setTx (b : Block) (bytes : List Byte) : Block := { b with tx := bytes }

/-- `rx <- bytes`. -/
def Block.setRx (b : Block) (bytes : List Byte) : Block := { b with rx := bytes }

/-- `tx_sealed <- f`. -/
def Block.setSealed (b : Block) (f : Bool) : Block := { b with txSealed := f }

/-- `rx` emptied, RX_OVF cleared and the result registers at NONE and 0
(spec/42_frame_rx.md R150). -/
def Block.clearRx (b : Block) : Block :=
  { b.setRx [] with rxOvf := false }.setOutcome noOutcome

/-- One byte appended to `rx`, or dropped with RX_OVF where it is full
(spec/42_frame_rx.md R151). -/
def Block.pushRx (b : Block) (x : Byte) : Block :=
  if b.rx.length = Config.frameMax then b.flagRxOvf else b.setRx (b.rx ++ [x])

/-- A request frame begun with the address and the function code (spec/41_frame_tx.md R130). -/
def Block.startTx (b : Block) : Block :=
  { (b.setTx [b.reqAddr, b.reqFc]).setSealed false with txOvf := false }

/-- One payload byte appended to `tx`; the sealed check comes first, then the room for the trailer
(spec/41_frame_tx.md R131). -/
def Block.pushTx (b : Block) (x : Byte) : Block :=
  if b.txSealed then b.flagAccErr
  else if Config.frameMax - 2 ≤ b.tx.length then b.flagTxOvf
  else b.setTx (b.tx ++ [x])

/-- The CRC trailer appended to `tx` (spec/41_frame_tx.md R132). -/
def Block.sealTx (b : Block) : Block :=
  if b.txSealed then b.flagAccErr
  else if Config.frameMax - 2 < b.tx.length then b.flagTxOvf
  else (b.setTx (withTrailer b.tx)).setSealed true

/-! ### The port's read map -/

/-- `MemRead(a, 1)`: the byte a read of address `a` returns, at every address of the port space
(spec/10_state.md R25, R36, R37; spec/30_encoding.md R85). -/
def Block.portRead (b : Block) (a : PortAddr) : Byte :=
  if a = 0x001#10 then b.status
  else if a = 0x003#10 then hiByte b.crc
  else if a = 0x004#10 then loByte b.crc
  else if a = 0x005#10 then b.reqAddr
  else if a = 0x006#10 then b.reqFc
  else if a = 0x007#10 then replyLen b.reqFc
  else if a = 0x009#10 then lenByte b.rx
  else if a = 0x00B#10 then lenByte b.tx
  else if a = 0x00C#10 then b.result
  else if a = 0x00D#10 then b.rspAddr
  else if a = 0x00E#10 then b.rspFc
  else if a = 0x00F#10 then b.devErr
  else if a = 0x010#10 then b.devClass
  else if a = 0x011#10 then hiByte b.crcExp
  else if a = 0x012#10 then loByte b.crcExp
  else if a = 0x013#10 then hiByte b.crcGot
  else if a = 0x014#10 then loByte b.crcGot
  else if a = 0x015#10 then b.payLen
  else if 0x100#10 ≤ a ∧ a ≤ 0x1FF#10 then byteAt b.rx (a.toNat - 0x100)
  else if 0x200#10 ≤ a ∧ a ≤ 0x2FF#10 then byteAt b.tx (a.toNat - 0x200)
  else 0x00#8

/-! ### Completing an access -/

/-- A read completes: the state record is unchanged and `acc_rdata` holds the byte
(spec/00_scope.md R12; spec/20_memory.md R60, R69). -/
def State.completeRead (s : State) (v : Byte) : State := { s with out := ⟨true, some v⟩ }

/-- A write completes: the state record is the new one and nothing is returned
(spec/00_scope.md R12; spec/20_memory.md R60, R68). -/
def State.completeWrite (s : State) (b : Block) : State := { s with blk := b, out := ⟨true, none⟩ }

/-- A step in which no access completes: nothing is returned (spec/20_memory.md R60). -/
def State.noAccess (s : State) : State := { s with out := ⟨false, none⟩ }

/-! ### The two buffers' bounds -/

/-- The canonical form of the block's memories: neither buffer holds more than FRAME_MAX bytes
(spec/10_state.md R21). The buffers are byte lists, so equal contents are equal data. -/
def Memory.wf (b : Block) : Bool :=
  decide (b.rx.length ≤ Config.frameMax) && decide (b.tx.length ≤ Config.frameMax)

end Sys2Proof.Machine
end

