-- ==== Sys2Proof/Machine/Control.lean ====
section
/-! DEFINITION. The control accesses: NOP, ERR_CLEAR, SOFT_RESET, RD_STATUS, and the reserved and
ignored accesses (spec/43_control.md R200 to R207). -/

namespace Sys2Proof.Machine

/-- NOP (spec/43_control.md R200). -/
def execNop (s : State) : Host.Outcome State Fault Refusal :=
  .next (s.completeWrite s.blk)

/-- ERR_CLEAR (spec/43_control.md R201). -/
def execErrClear (s : State) : Host.Outcome State Fault Refusal :=
  .next (s.completeWrite s.blk.clearSticky)

/-- SOFT_RESET (spec/43_control.md R202). -/
def execSoftReset (s : State) : Host.Outcome State Fault Refusal :=
  .next (s.completeWrite Block.reset)

/-- CMD_RSVD: the opcode names no operation (spec/43_control.md R203; spec/30_encoding.md R83). -/
def execCmdRsvd (_op : Byte) (s : State) : Host.Outcome State Fault Refusal :=
  .next (s.completeWrite s.blk.flagAccErr)

/-- WR_IGNORED: the byte is discarded (spec/43_control.md R207). -/
def execWrIgnored (_a : PortAddr) (_d : Byte) (s : State) : Host.Outcome State Fault Refusal :=
  .next (s.completeWrite s.blk.flagAccErr)

/-- RD_STATUS (spec/43_control.md R205). -/
def execRdStatus (s : State) : Host.Outcome State Fault Refusal :=
  .next (s.completeRead s.blk.status)

/-- RD_ZERO (spec/43_control.md R206). -/
def execRdZero (_a : PortAddr) (s : State) : Host.Outcome State Fault Refusal :=
  .next (s.completeRead 0x00#8)

end Sys2Proof.Machine
end

