-- ==== Sys2Proof/Machine/Crc.lean ====
section
/-! DEFINITION. The CRC engine's accesses: CRC_INIT, WR_CRC_IN, RD_CRC_HI, RD_CRC_LO
(spec/40_crc.md R103 to R106). -/

namespace Sys2Proof.Machine

/-- CRC_INIT (spec/40_crc.md R103). -/
def execCrcInit (s : State) : Host.Outcome State Fault Refusal :=
  .next (s.completeWrite (s.blk.setCrc Config.crcInit))

/-- WR_CRC_IN (spec/40_crc.md R104). -/
def execWrCrcIn (b : Byte) (s : State) : Host.Outcome State Fault Refusal :=
  .next (s.completeWrite (s.blk.setCrc (crcStep s.blk.crc b)))

/-- RD_CRC_HI (spec/40_crc.md R105). -/
def execRdCrcHi (s : State) : Host.Outcome State Fault Refusal :=
  .next (s.completeRead (hiByte s.blk.crc))

/-- RD_CRC_LO (spec/40_crc.md R106). -/
def execRdCrcLo (s : State) : Host.Outcome State Fault Refusal :=
  .next (s.completeRead (loByte s.blk.crc))

end Sys2Proof.Machine
end

