-- ==== Sys2Proof/Machine/FrameRx.lean ====
section
/-! DEFINITION. The receive side's accesses: the receive buffer, DECODE and CHECK, and the result
registers (spec/42_frame_rx.md R150 to R153, R160, R161, R170 to R179). -/

namespace Sys2Proof.Machine

/-- RX_CLEAR (spec/42_frame_rx.md R150). -/
def execRxClear (s : State) : Host.Outcome State Fault Refusal :=
  .next (s.completeWrite s.blk.clearRx)

/-- WR_RX_IN (spec/42_frame_rx.md R151). -/
def execWrRxIn (b : Byte) (s : State) : Host.Outcome State Fault Refusal :=
  .next (s.completeWrite (s.blk.pushRx b))

/-- RD_RX_LEN (spec/42_frame_rx.md R152). -/
def execRdRxLen (s : State) : Host.Outcome State Fault Refusal :=
  .next (s.completeRead (lenByte s.blk.rx))

/-- RD_RX_WIN (spec/42_frame_rx.md R153). -/
def execRdRxWin (i : Byte) (s : State) : Host.Outcome State Fault Refusal :=
  .next (s.completeRead (byteAt s.blk.rx i.toNat))

/-- DECODE (spec/42_frame_rx.md R160). -/
def execDecode (s : State) : Host.Outcome State Fault Refusal :=
  .next (s.completeWrite (s.blk.setOutcome (decodeFrame s.blk.rx)))

/-- CHECK (spec/42_frame_rx.md R161). -/
def execCheck (s : State) : Host.Outcome State Fault Refusal :=
  .next (s.completeWrite
    (s.blk.setOutcome (validate (decodeFrame s.blk.rx) s.blk.reqAddr s.blk.reqFc)))

/-- RD_RESULT (spec/42_frame_rx.md R170). -/
def execRdResult (s : State) : Host.Outcome State Fault Refusal :=
  .next (s.completeRead s.blk.result)

/-- RD_RSP_ADDR (spec/42_frame_rx.md R171). -/
def execRdRspAddr (s : State) : Host.Outcome State Fault Refusal :=
  .next (s.completeRead s.blk.rspAddr)

/-- RD_RSP_FC (spec/42_frame_rx.md R172). -/
def execRdRspFc (s : State) : Host.Outcome State Fault Refusal :=
  .next (s.completeRead s.blk.rspFc)

/-- RD_DEV_ERR (spec/42_frame_rx.md R173). -/
def execRdDevErr (s : State) : Host.Outcome State Fault Refusal :=
  .next (s.completeRead s.blk.devErr)

/-- RD_DEV_CLASS (spec/42_frame_rx.md R174). -/
def execRdDevClass (s : State) : Host.Outcome State Fault Refusal :=
  .next (s.completeRead s.blk.devClass)

/-- RD_CRC_EXP_HI (spec/42_frame_rx.md R175). -/
def execRdCrcExpHi (s : State) : Host.Outcome State Fault Refusal :=
  .next (s.completeRead (hiByte s.blk.crcExp))

/-- RD_CRC_EXP_LO (spec/42_frame_rx.md R176). -/
def execRdCrcExpLo (s : State) : Host.Outcome State Fault Refusal :=
  .next (s.completeRead (loByte s.blk.crcExp))

/-- RD_CRC_GOT_HI (spec/42_frame_rx.md R177). -/
def execRdCrcGotHi (s : State) : Host.Outcome State Fault Refusal :=
  .next (s.completeRead (hiByte s.blk.crcGot))

/-- RD_CRC_GOT_LO (spec/42_frame_rx.md R178). -/
def execRdCrcGotLo (s : State) : Host.Outcome State Fault Refusal :=
  .next (s.completeRead (loByte s.blk.crcGot))

/-- RD_PAY_LEN (spec/42_frame_rx.md R179). -/
def execRdPayLen (s : State) : Host.Outcome State Fault Refusal :=
  .next (s.completeRead s.blk.payLen)

end Sys2Proof.Machine
end

