-- ==== Sys2Proof/Machine/FrameTx.lean ====
section
/-! DEFINITION. The request side's accesses: the request registers, the expected length, and the
frame assembly (spec/41_frame_tx.md R122 to R134). -/

namespace Sys2Proof.Machine

/-- WR_REQ_ADDR (spec/41_frame_tx.md R122). -/
def execWrReqAddr (a : Byte) (s : State) : Host.Outcome State Fault Refusal :=
  .next (s.completeWrite (s.blk.setReqAddr a))

/-- RD_REQ_ADDR (spec/41_frame_tx.md R123). -/
def execRdReqAddr (s : State) : Host.Outcome State Fault Refusal :=
  .next (s.completeRead s.blk.reqAddr)

/-- WR_REQ_FC (spec/41_frame_tx.md R124). -/
def execWrReqFc (f : Byte) (s : State) : Host.Outcome State Fault Refusal :=
  .next (s.completeWrite (s.blk.setReqFc f))

/-- RD_REQ_FC (spec/41_frame_tx.md R125). -/
def execRdReqFc (s : State) : Host.Outcome State Fault Refusal :=
  .next (s.completeRead s.blk.reqFc)

/-- RD_EXP_LEN (spec/41_frame_tx.md R126; spec/10_state.md R30). -/
def execRdExpLen (s : State) : Host.Outcome State Fault Refusal :=
  .next (s.completeRead (replyLen s.blk.reqFc))

/-- TX_START (spec/41_frame_tx.md R130). -/
def execTxStart (s : State) : Host.Outcome State Fault Refusal :=
  .next (s.completeWrite s.blk.startTx)

/-- WR_TX_IN (spec/41_frame_tx.md R131). -/
def execWrTxIn (b : Byte) (s : State) : Host.Outcome State Fault Refusal :=
  .next (s.completeWrite (s.blk.pushTx b))

/-- TX_SEAL (spec/41_frame_tx.md R132). -/
def execTxSeal (s : State) : Host.Outcome State Fault Refusal :=
  .next (s.completeWrite s.blk.sealTx)

/-- RD_TX_LEN (spec/41_frame_tx.md R133). -/
def execRdTxLen (s : State) : Host.Outcome State Fault Refusal :=
  .next (s.completeRead (lenByte s.blk.tx))

/-- RD_TX_WIN (spec/41_frame_tx.md R134). -/
def execRdTxWin (i : Byte) (s : State) : Host.Outcome State Fault Refusal :=
  .next (s.completeRead (byteAt s.blk.tx i.toNat))

end Sys2Proof.Machine
end

