-- ==== Sys2Proof/Machine/Dispatch.lean ====
section
/-! DEFINITION. The dispatch: one arm per instruction, each a call of its meaning. -/

namespace Sys2Proof.Machine

def exec (i : Instr) (s : State) : Host.Outcome State Fault Refusal :=
  match i with
  | .nop => Sys2Proof.Machine.execNop s
  | .crcInit => Sys2Proof.Machine.execCrcInit s
  | .rxClear => Sys2Proof.Machine.execRxClear s
  | .txStart => Sys2Proof.Machine.execTxStart s
  | .txSeal => Sys2Proof.Machine.execTxSeal s
  | .decode => Sys2Proof.Machine.execDecode s
  | .check => Sys2Proof.Machine.execCheck s
  | .errClear => Sys2Proof.Machine.execErrClear s
  | .softReset => Sys2Proof.Machine.execSoftReset s
  | .wrCrcIn b => Sys2Proof.Machine.execWrCrcIn b s
  | .wrReqAddr a => Sys2Proof.Machine.execWrReqAddr a s
  | .wrReqFc f => Sys2Proof.Machine.execWrReqFc f s
  | .wrRxIn b => Sys2Proof.Machine.execWrRxIn b s
  | .wrTxIn b => Sys2Proof.Machine.execWrTxIn b s
  | .cmdRsvd op => Sys2Proof.Machine.execCmdRsvd op s
  | .wrIgnored a d => Sys2Proof.Machine.execWrIgnored a d s
  | .rdStatus => Sys2Proof.Machine.execRdStatus s
  | .rdCrcHi => Sys2Proof.Machine.execRdCrcHi s
  | .rdCrcLo => Sys2Proof.Machine.execRdCrcLo s
  | .rdReqAddr => Sys2Proof.Machine.execRdReqAddr s
  | .rdReqFc => Sys2Proof.Machine.execRdReqFc s
  | .rdExpLen => Sys2Proof.Machine.execRdExpLen s
  | .rdRxLen => Sys2Proof.Machine.execRdRxLen s
  | .rdTxLen => Sys2Proof.Machine.execRdTxLen s
  | .rdResult => Sys2Proof.Machine.execRdResult s
  | .rdRspAddr => Sys2Proof.Machine.execRdRspAddr s
  | .rdRspFc => Sys2Proof.Machine.execRdRspFc s
  | .rdDevErr => Sys2Proof.Machine.execRdDevErr s
  | .rdDevClass => Sys2Proof.Machine.execRdDevClass s
  | .rdCrcExpHi => Sys2Proof.Machine.execRdCrcExpHi s
  | .rdCrcExpLo => Sys2Proof.Machine.execRdCrcExpLo s
  | .rdCrcGotHi => Sys2Proof.Machine.execRdCrcGotHi s
  | .rdCrcGotLo => Sys2Proof.Machine.execRdCrcGotLo s
  | .rdPayLen => Sys2Proof.Machine.execRdPayLen s
  | .rdRxWin k => Sys2Proof.Machine.execRdRxWin k s
  | .rdTxWin k => Sys2Proof.Machine.execRdTxWin k s
  | .rdZero a => Sys2Proof.Machine.execRdZero a s

end Sys2Proof.Machine
end

