-- ==== Sys2Proof/Machine/Step.lean ====
section
/-! DEFINITION. One step: the host's next port input acts on the block
(spec/00_scope.md R12; spec/20_memory.md R60, R72; spec/70_reset_and_hazards.md R250). -/

namespace Sys2Proof.Machine

/-- One step. With `rst = 1` the record takes its reset values and a presented access neither acts
nor completes (spec/70_reset_and_hazards.md R250). Otherwise a presented access is decoded and
runs to completion (spec/20_memory.md R68). With no access presented the record does not change
(spec/60_exceptions.md R235). -/
def step (s : State) : Host.Outcome State Fault Refusal :=
  match s.inputs with
  | [] => .next s.noAccess
  | ⟨true, _⟩ :: rest => .next { s with blk := Block.reset, inputs := rest }.noAccess
  | ⟨false, none⟩ :: rest => .next { s with inputs := rest }.noAccess
  | ⟨false, some w⟩ :: rest => exec (decode w) { s with inputs := rest }

/-- The access word `w` presented with `rst = 0` as the next input. -/
def State.present (s : State) (w : AccessWord) : State :=
  { s with inputs := ⟨false, some w⟩ :: s.inputs }

/-- The table's word `w` presented as the next access, ahead of the inputs already waiting; a
number that is no access word changes nothing (notes/assumptions/1.md). -/
def State.withFetchWord (s : State) (nbits w : Nat) : State :=
  match accessWordOf (w % 2 ^ nbits) with
  | .ok a => s.present a
  | .error _ => s

end Sys2Proof.Machine
end

