-- ==== Sys2Proof/Machine/Asm.lean ====
section
/-! DEFINITION. The assembler syntax and the pseudo-instructions (spec/30_encoding.md R90, R91). -/

namespace Sys2Proof.Machine

/-- The register names of spec/10_state.md R25. -/
inductive Reg where
  | cmd | status | crcIn | crcHi | crcLo | reqAddr | reqFc | expLen | rxIn | rxLen | txIn | txLen
  | result | rspAddr | rspFc | devErr | devClass | crcExpHi | crcExpLo | crcGotHi | crcGotLo
  | payLen
  deriving DecidableEq, Repr

/-- `addr(<reg>)` (spec/10_state.md R25). -/
def Reg.addr : Reg → PortAddr
  | .cmd => 0x000#10
  | .status => 0x001#10
  | .crcIn => 0x002#10
  | .crcHi => 0x003#10
  | .crcLo => 0x004#10
  | .reqAddr => 0x005#10
  | .reqFc => 0x006#10
  | .expLen => 0x007#10
  | .rxIn => 0x008#10
  | .rxLen => 0x009#10
  | .txIn => 0x00A#10
  | .txLen => 0x00B#10
  | .result => 0x00C#10
  | .rspAddr => 0x00D#10
  | .rspFc => 0x00E#10
  | .devErr => 0x00F#10
  | .devClass => 0x010#10
  | .crcExpHi => 0x011#10
  | .crcExpLo => 0x012#10
  | .crcGotHi => 0x013#10
  | .crcGotLo => 0x014#10
  | .payLen => 0x015#10

/-- One line of a program (spec/30_encoding.md R90). -/
inductive AsmLine where
  /-- `WR <reg>, <imm8>`. -/
  | wr (r : Reg) (v : Byte)
  /-- `RD <reg>`. -/
  | rd (r : Reg)
  /-- `RD RX_WIN[<i>]`. -/
  | rdRxWin (i : Byte)
  /-- `RD TX_WIN[<i>]`. -/
  | rdTxWin (i : Byte)
  /-- `WR 0x<addr>, <imm8>`. -/
  | wrRaw (a : PortAddr) (v : Byte)
  /-- `RD 0x<addr>`. -/
  | rdRaw (a : PortAddr)
  deriving DecidableEq, Repr

/-- The access word of a line (spec/30_encoding.md R90). -/
def AsmLine.word : AsmLine → AccessWord
  | .wr r v => accessWord true r.addr v
  | .rd r => encodeRead r.addr
  | .rdRxWin i => encodeRead (0x100#10 + i.setWidth 10)
  | .rdTxWin i => encodeRead (0x200#10 + i.setWidth 10)
  | .wrRaw a v => accessWord true a v
  | .rdRaw a => encodeRead a

/-- The command names that are pseudo-instructions, with the opcodes of spec/30_encoding.md R81. -/
inductive Command where
  | nop | crcInit | rxClear | txStart | txSeal | decode | check | errClear | softReset
  deriving DecidableEq, Repr

/-- The opcode of a command (spec/30_encoding.md R81). -/
def Command.opcode : Command → Byte
  | .nop => 0x00#8
  | .crcInit => 0x01#8
  | .rxClear => 0x02#8
  | .txStart => 0x03#8
  | .txSeal => 0x04#8
  | .decode => 0x05#8
  | .check => 0x06#8
  | .errClear => 0x07#8
  | .softReset => 0x08#8

/-- The 16-bit values RD16 reads (spec/30_encoding.md R91). -/
inductive Reg16 where
  | crc | crcExp | crcGot
  deriving DecidableEq, Repr

/-- `<name>_HI`. -/
def Reg16.hi : Reg16 → Reg
  | .crc => .crcHi
  | .crcExp => .crcExpHi
  | .crcGot => .crcGotHi

/-- `<name>_LO`. -/
def Reg16.lo : Reg16 → Reg
  | .crc => .crcLo
  | .crcExp => .crcExpLo
  | .crcGot => .crcGotLo

/-- The pseudo-instructions (spec/30_encoding.md R91). -/
inductive Pseudo where
  | command (c : Command)
  | crcFeed (bs : List Byte)
  | rxPush (bs : List Byte)
  | txPush (bs : List Byte)
  | rd16 (r : Reg16)
  | request (a f : Byte)
  | encode (a f : Byte) (p : List Byte)
  deriving DecidableEq, Repr

/-- The expansion of a pseudo-instruction (spec/30_encoding.md R91). -/
def Pseudo.expand : Pseudo → List AsmLine
  | .command c => [.wr .cmd c.opcode]
  | .crcFeed bs => bs.map (.wr .crcIn)
  | .rxPush bs => bs.map (.wr .rxIn)
  | .txPush bs => bs.map (.wr .txIn)
  | .rd16 r => [.rd r.hi, .rd r.lo]
  | .request a f => [.wr .reqAddr a, .wr .reqFc f]
  | .encode a f p =>
    [.wr .reqAddr a, .wr .reqFc f, .wr .cmd Command.txStart.opcode] ++ p.map (.wr .txIn) ++
      [.wr .cmd Command.txSeal.opcode]

/-- The accesses a pseudo-instruction stands for. -/
def Pseudo.accesses (p : Pseudo) : List Instr := p.expand.map fun l => Sys2Proof.decode l.word

end Sys2Proof.Machine
end

