-- ==== Sys2Proof/Safety.lean ====
section
/-! DEFINITION. The terms the claims use: running a list of accesses, and the invariants of the
state record. No access of this block faults, so every run is safe; the invariants say what a run
keeps (spec/10_state.md R21, R33, R34; spec/41_frame_tx.md R137). -/

namespace Sys2Proof.Machine

/-! ### Runs -/

/-- The accesses executed one after the other, stopping at the first fault or refusal
(spec/20_memory.md R72). -/
def runAccesses : List Instr → State → Host.Outcome State Fault Refusal
  | [], s => .next s
  | i :: is, s =>
    match exec i s with
    | .next t => runAccesses is t
    | .fault r => .fault r
    | .refused r => .refused r

/-- The inputs of a host that presents the words one after the other with `rst = 0`. -/
def presentAll (ws : List AccessWord) : List PortInput := ws.map fun w => ⟨false, some w⟩

/-- The bytes that WR_CRC_IN accesses feed, in order. -/
def fedBytes : List Instr → List Byte
  | [] => []
  | .wrCrcIn b :: is => b :: fedBytes is
  | _ :: is => fedBytes is

/-! ### Which accesses write what -/

/-- The accesses that may change `crc` (spec/10_state.md R23; spec/70_reset_and_hazards.md R256). -/
def writesCrc : Instr → Bool
  | .crcInit | .wrCrcIn _ | .softReset => true
  | _ => false

/-- The accesses that may change RESULT and the result registers
(spec/70_reset_and_hazards.md R256, R257). -/
def writesResults : Instr → Bool
  | .decode | .check | .rxClear | .softReset => true
  | _ => false

/-- The accesses that may change `rx` (spec/42_frame_rx.md R150, R151). -/
def writesRx : Instr → Bool
  | .wrRxIn _ | .rxClear | .softReset => true
  | _ => false

/-- The accesses that may change `tx` (spec/41_frame_tx.md R130 to R132). -/
def writesTx : Instr → Bool
  | .txStart | .wrTxIn _ | .txSeal | .softReset => true
  | _ => false

/-- The accesses that may change `tx_sealed` (spec/10_state.md R26). -/
def writesTxSealed : Instr → Bool
  | .txStart | .txSeal | .softReset => true
  | _ => false

/-- The accesses that may change `req_addr` (spec/41_frame_tx.md R122). -/
def writesReqAddr : Instr → Bool
  | .wrReqAddr _ | .softReset => true
  | _ => false

/-- The accesses that may change `req_fc` (spec/41_frame_tx.md R124). -/
def writesReqFc : Instr → Bool
  | .wrReqFc _ | .softReset => true
  | _ => false

/-- The accesses that may change `rx_ovf` (spec/60_exceptions.md R223). -/
def writesRxOvf : Instr → Bool
  | .wrRxIn _ | .rxClear | .errClear | .softReset => true
  | _ => false

/-- The accesses that may change `tx_ovf` (spec/60_exceptions.md R223; TX_SEAL by the branch of
spec/41_frame_tx.md R132 that no reachable state takes). -/
def writesTxOvf : Instr → Bool
  | .wrTxIn _ | .txSeal | .txStart | .errClear | .softReset => true
  | _ => false

/-- The accesses that may change `acc_err` (spec/60_exceptions.md R223). -/
def writesAccErr : Instr → Bool
  | .cmdRsvd _ | .wrIgnored _ _ | .wrTxIn _ | .txSeal | .errClear | .softReset => true
  | _ => false

/-- RESULT and the seven result registers of a record. -/
def Block.outcome (b : Block) : FrameOutcome :=
  ⟨b.result, b.rspAddr, b.rspFc, b.devErr, b.devClass, b.crcExp, b.crcGot, b.payLen⟩

/-! ### The causes of the RESULT codes (spec/60_exceptions.md R221) -/

/-- TOO_SHORT's cause: `len(rx) < 5`. -/
def Block.TooShort (b : Block) : Prop := b.rx.length < 5

/-- DEVICE_ERROR's mark: `rx[1] > 127`. -/
def Block.ErrorReply (b : Block) : Prop := 127#8 < byteAt b.rx 1

/-- BAD_CRC's cause: `crc16(rx[0 .. L-2]) ≠ (rx[L-2] << 8) or rx[L-1]`. -/
def Block.CrcDiffers (b : Block) : Prop :=
  crc16 (b.rx.take (b.rx.length - 2)) ≠
    ((byteAt b.rx (b.rx.length - 2)).setWidth 16 <<< 8 |||
      (byteAt b.rx (b.rx.length - 1)).setWidth 16)

/-- NONMATCHING_FC's cause: `rx[1] ≠ req_fc`. -/
def Block.OtherFunctionCode (b : Block) : Prop := byteAt b.rx 1 ≠ b.reqFc

/-- WRONG_ADDRESS's cause: `req_addr ≠ 250` and `rx[0] ≠ req_addr`. -/
def Block.OtherAddress (b : Block) : Prop := b.reqAddr ≠ 250#8 ∧ byteAt b.rx 0 ≠ b.reqAddr

/-! ### Invariants of the state record -/

/-- Neither buffer holds more than FRAME_MAX bytes, and an unsealed `tx` leaves room for its
trailer (spec/10_state.md R21; spec/41_frame_tx.md R137). -/
def BufferBounds (b : Block) : Prop :=
  b.rx.length ≤ Config.frameMax ∧ b.tx.length ≤ Config.frameMax ∧
    (b.txSealed = false → b.tx.length ≤ Config.frameMax - 2)

/-- A sealed `tx` ends in the CRC of the bytes before its last two, the high byte first
(spec/41_frame_tx.md R132; spec/40_crc.md R102). -/
def SealedFrameHasTrailer (b : Block) : Prop :=
  b.txSealed = true → b.tx = withTrailer (b.tx.take (b.tx.length - 2))

/-- While an overflow flag is up its buffer is full: `rx` holds FRAME_MAX bytes, and `tx` holds
FRAME_MAX - 2 bytes, or FRAME_MAX once sealed (spec/42_frame_rx.md R151;
spec/41_frame_tx.md R131). -/
def OverflowMeansFull (b : Block) : Prop :=
  (b.rxOvf = true → b.rx.length = Config.frameMax) ∧
    (b.txOvf = true →
      b.tx.length = if b.txSealed then Config.frameMax else Config.frameMax - 2)

/-- What the result registers say together (spec/10_state.md R33, R34; spec/42_frame_rx.md R158,
R163, R172 to R179): RESULT is a code the block writes; an error function code and a class stand
exactly with DEVICE_ERROR; the class is that of the raw code; a payload length stands exactly with
a frame that decoded, is at most FRAME_MAX - 4, and then the two CRC values agree; they differ
after BAD_CRC; and NONE and TOO_SHORT leave every other register at 0. -/
structure ResultRecord (b : Block) : Prop where
  code : b.result ≤ 0x06#8
  errorFc : 127#8 < b.rspFc ↔ b.result = resDeviceError
  cls : b.devClass = if b.result = resDeviceError then classify b.devErr else 0#8
  devErr : b.result ≠ resDeviceError → b.devErr = 0#8
  decoded : b.payLen ≠ 0#8 ↔
    b.result = resOk ∨ b.result = resNonmatchingFc ∨ b.result = resWrongAddress
  payBound : b.payLen.toNat ≤ Config.frameMax - 4
  crcAgree : b.payLen ≠ 0#8 → b.crcExp = b.crcGot
  crcDiffer : b.result = resBadCrc → b.crcExp ≠ b.crcGot
  noCrc : b.result = resDeviceError → b.crcExp = 0#16 ∧ b.crcGot = 0#16
  nothing : b.result = resNone ∨ b.result = resTooShort →
    b.rspAddr = 0#8 ∧ b.rspFc = 0#8 ∧ b.crcExp = 0#16 ∧ b.crcGot = 0#16

end Sys2Proof.Machine
end

