-- ==== Sys2Proof/Certificates/Slice0/Obligations.lean ====
section
/-! DEFINITION. The statements for the provers, from the numbered rules of spec/. -/

open Sys2Proof Sys2Proof.Machine

/-! ### Encoding -/

/-- Decoding the word of a well-formed instruction gives the instruction back
(spec/30_encoding.md R80, R81, R84, R85, R87). -/
def Obligations.DecodeOfEncodeIsTheInstruction : Prop :=
  ∀ i : Instr, i.wf = true → decode (encode i) = i

/-- Every word decodes to a well-formed instruction, whose word is the canonical form of that word:
itself for a write, the word with DATA = 0 for a read (spec/30_encoding.md R80, R87, R88). -/
def Obligations.EncodeOfDecodeIsTheCanonicalWord : Prop :=
  ∀ w : AccessWord, (decode w).wf = true ∧
    encode (decode w) = if w.getLsbD 18 then w else w &&& 0x7FF00#19

/-- The opcode table and the decoding procedure agree: every word has exactly one matching row of
lowest priority number, and that row's instruction is the decoder's; the catch-all rows CMD_RSVD,
WR_IGNORED and RD_ZERO are the rows of priority 2 and above (spec/30_encoding.md R87, R92). -/
def Obligations.OpcodeTableDecodesAsTheProcedure : Prop :=
  (∀ w : AccessWord, decodeByTable w = some (decode w) ∧
    ∃ r ∈ opcodeTable, w &&& r.mask = r.pat ∧ r.instr w = decode w ∧
      ∀ q ∈ opcodeTable, w &&& q.mask = q.pat →
        (q.pat = r.pat ∧ q.mask = r.mask) ∨ r.priority < q.priority) ∧
  (∀ r ∈ opcodeTable, 2 ≤ r.priority ↔
    r.mnemonic = "CMD_RSVD" ∨ r.mnemonic = "WR_IGNORED" ∨ r.mnemonic = "RD_ZERO")

/-- The words of spec/95_test_vectors.md §2.6, and the nine commands of spec/30_encoding.md R81,
decode to the instructions they stand for. The last clause is the model's reading
(notes/assumptions/8.md, DEDUCED): a number of more than 19 bits is refused by name. -/
def Obligations.WrittenOutWordsDecode : Prop :=
  (decode 0x40000#19 = .nop ∧ decode 0x40001#19 = .crcInit ∧ decode 0x40002#19 = .rxClear ∧
    decode 0x40003#19 = .txStart ∧ decode 0x40004#19 = .txSeal ∧ decode 0x40005#19 = .decode ∧
    decode 0x40006#19 = .check ∧ decode 0x40007#19 = .errClear ∧
    decode 0x40008#19 = .softReset) ∧
  (decode 0x40009#19 = .cmdRsvd 0x09#8 ∧ decode 0x400FF#19 = .cmdRsvd 0xFF#8 ∧
    decode 0x40231#19 = .wrCrcIn 0x31#8 ∧ decode 0x405FA#19 = .wrReqAddr 250#8 ∧
    decode 0x401FF#19 = .wrIgnored 0x001#10 0xFF#8 ∧
    decode 0x7FFFF#19 = .wrIgnored 0x3FF#10 0xFF#8) ∧
  (decode 0x00C00#19 = .rdResult ∧ decode 0x00CFF#19 = .rdResult ∧
    decode 0x10300#19 = .rdRxWin 3#8 ∧ decode 0x2FF00#19 = .rdTxWin 255#8 ∧
    decode 0x30000#19 = .rdZero 0x300#10 ∧ decode 0x00000#19 = .rdZero 0x000#10 ∧
    decode 0x01600#19 = .rdZero 0x016#10 ∧ decode 0x01500#19 = .rdPayLen) ∧
  (∀ n : Nat, 2 ^ 19 ≤ n → decodeNat n = .error .notAnAccessWord)

/-- The lines and the pseudo-instructions of the assembler stand for the accesses their table gives
(spec/30_encoding.md R90, R91). -/
def Obligations.AssemblerStandsForItsAccesses : Prop :=
  (∀ r v, (AsmLine.wr r v).word = 0x40000#19 ||| r.addr.setWidth 19 <<< 8 ||| v.setWidth 19) ∧
  (∀ r, (AsmLine.rd r).word = r.addr.setWidth 19 <<< 8) ∧
  (∀ i, (AsmLine.rdRxWin i).word = (0x100#19 + i.setWidth 19) <<< 8) ∧
  (∀ i, (AsmLine.rdTxWin i).word = (0x200#19 + i.setWidth 19) <<< 8) ∧
  (∀ a v, (AsmLine.wrRaw a v).word = 0x40000#19 ||| a.setWidth 19 <<< 8 ||| v.setWidth 19) ∧
  (∀ a, (AsmLine.rdRaw a).word = a.setWidth 19 <<< 8) ∧
  ((Pseudo.command .nop).accesses = [.nop] ∧ (Pseudo.command .crcInit).accesses = [.crcInit] ∧
    (Pseudo.command .rxClear).accesses = [.rxClear] ∧
    (Pseudo.command .txStart).accesses = [.txStart] ∧
    (Pseudo.command .txSeal).accesses = [.txSeal] ∧
    (Pseudo.command .decode).accesses = [.decode] ∧
    (Pseudo.command .check).accesses = [.check] ∧
    (Pseudo.command .errClear).accesses = [.errClear] ∧
    (Pseudo.command .softReset).accesses = [.softReset]) ∧
  (∀ bs, (Pseudo.crcFeed bs).accesses = bs.map .wrCrcIn) ∧
  (∀ bs, (Pseudo.rxPush bs).accesses = bs.map .wrRxIn) ∧
  (∀ bs, (Pseudo.txPush bs).accesses = bs.map .wrTxIn) ∧
  ((Pseudo.rd16 .crc).accesses = [.rdCrcHi, .rdCrcLo] ∧
    (Pseudo.rd16 .crcExp).accesses = [.rdCrcExpHi, .rdCrcExpLo] ∧
    (Pseudo.rd16 .crcGot).accesses = [.rdCrcGotHi, .rdCrcGotLo]) ∧
  (∀ a f, (Pseudo.request a f).accesses = [.wrReqAddr a, .wrReqFc f]) ∧
  (∀ a f p, (Pseudo.encode a f p).accesses =
    [.wrReqAddr a, .wrReqFc f, .txStart] ++ p.map .wrTxIn ++ [.txSeal])

/-! ### Steps, reset and runs -/

/-- A step with an access presented and `rst = 0` executes the decoded access on the state without
that input (spec/00_scope.md R12; spec/20_memory.md R68, R72). The second clause is the model's
choice: a table word is placed ahead of the waiting inputs and is the next access
(notes/assumptions/1.md, DESIGN CHOICE), and it is given 24 bits (notes/assumptions/8.md,
DEDUCED). -/
def Obligations.StepRunsThePresentedAccess : Prop :=
  (∀ (s : State) (w : AccessWord) (rest : List PortInput),
    s.inputs = ⟨false, some w⟩ :: rest →
      step s = exec (decode w) { s with inputs := rest }) ∧
  (∀ (s : State) (n : Nat), n < 2 ^ 19 →
    step (s.withFetchWord 24 n) = exec (decode (BitVec.ofNat 19 n)) s)

/-- `rst = 1` gives every field its reset value whatever access is presented, and that access does
not complete; SOFT_RESET is a step to the same record (spec/70_reset_and_hazards.md R250). The
outputs after a reset with no access presented (notes/assumptions/4.md) and the input taken off
the waiting ones (notes/assumptions/1.md, 12.md) are the model's choices. -/
def Obligations.ResetInputGivesTheResetRecord : Prop :=
  (∀ (s : State) (p : Option AccessWord) (rest : List PortInput),
    s.inputs = ⟨true, p⟩ :: rest →
      step s = .next { blk := State.reset.blk, inputs := rest, out := ⟨false, none⟩ }) ∧
  (∀ s : State, exec .softReset s = .next (s.completeWrite State.reset.blk))

/-- Every field's reset value, and what each port address reads after reset, STATUS among them
(spec/10_state.md R40, which marks the STATUS byte 0x00 as derived, with R26 and R36; the
write-only and reserved addresses are spec/43_control.md R206). -/
def Obligations.ResetValuesOfEveryField : Prop :=
  State.reset.blk =
    { crc := 0xFFFF#16, reqAddr := 0#8, reqFc := 0#8, tx := [], txSealed := false, rx := [],
      rxOvf := false, txOvf := false, accErr := false, result := 0#8, rspAddr := 0#8,
      rspFc := 0#8, devErr := 0#8, devClass := 0#8, crcExp := 0#16, crcGot := 0#16,
      payLen := 0#8 } ∧
  ∀ a : PortAddr,
    State.reset.blk.portRead a = if a = 0x003#10 ∨ a = 0x004#10 then 0xFF#8 else 0x00#8

/-- With no access presented and `rst = 0` the record does not change
(spec/60_exceptions.md R235). That an empty list of waiting inputs is such a cycle, and what is
left of the waiting inputs, are the model's choices (notes/assumptions/1.md, 12.md). -/
def Obligations.IdleStepKeepsTheRecord : Prop :=
  ∀ s : State,
    (s.inputs = [] → ∃ t, step s = .next t ∧ t.blk = s.blk ∧ t.inputs = []) ∧
    (∀ rest, s.inputs = ⟨false, none⟩ :: rest →
      ∃ t, step s = .next t ∧ t.blk = s.blk ∧ t.inputs = rest)

/-- No access and no step faults or is refused (spec/00_scope.md R12; spec/30_encoding.md R88;
spec/60_exceptions.md R220). -/
def Obligations.EveryAccessAndStepAnswersANextState : Prop :=
  (∀ (i : Instr) (s : State), ∃ t, exec i s = .next t) ∧ ∀ s : State, ∃ t, step s = .next t

/-- Presenting words one after the other executes their accesses in that order, each on the state
the one before left (spec/20_memory.md R72). -/
def Obligations.PresentedWordsTakeEffectInOrder : Prop :=
  ∀ (ws : List AccessWord) (s : State),
    Host.Core.run Sys2Proof.core ws.length { s with inputs := presentAll ws ++ s.inputs } =
      runAccesses (ws.map decode) s

/-- Whatever the host drives from reset, resets included, the run completes and ends in a record
whose buffers hold at most FRAME_MAX bytes and whose RESULT and DEV_CLASS are codes the block
writes: the invariants the spec marks as derived in spec/10_state.md R21, R33 and R34. -/
def Obligations.EveryHostRunFromResetStaysInBounds : Prop :=
  ∀ ins : List PortInput, ∃ t : State,
    Host.Core.run Sys2Proof.core ins.length { State.reset with inputs := ins } = .next t ∧
      t.blk.rx.length ≤ 250 ∧ t.blk.tx.length ≤ 250 ∧ t.blk.result ≤ 0x06#8 ∧
      t.blk.devClass ≤ 0x06#8

/-! ### Invariants -/

/-- Every step keeps the buffers' bounds, with room for the trailer while `tx` is unsealed
(spec/10_state.md R21; spec/41_frame_tx.md R137). -/
def Obligations.StepKeepsBufferBounds : Prop :=
  ∀ s t : State, BufferBounds s.blk → step s = .next t → BufferBounds t.blk

/-- Every step keeps a sealed frame's trailer equal to the CRC of the bytes before it
(spec/41_frame_tx.md R131, R132). -/
def Obligations.StepKeepsTheSealedTrailer : Prop :=
  ∀ s t : State, SealedFrameHasTrailer s.blk → step s = .next t → SealedFrameHasTrailer t.blk

/-- Every step from a record within the buffers' bounds keeps the meaning of the overflow flags
(spec/42_frame_rx.md R151; spec/41_frame_tx.md R131, R132). -/
def Obligations.StepKeepsOverflowMeansFull : Prop :=
  ∀ s t : State, BufferBounds s.blk → OverflowMeansFull s.blk → step s = .next t →
    OverflowMeansFull t.blk

/-- Every step from a record within the buffers' bounds keeps what the result registers say
together (spec/10_state.md R33, R34; spec/42_frame_rx.md R158, R159, R163). -/
def Obligations.StepKeepsTheResultRecord : Prop :=
  ∀ s t : State, BufferBounds s.blk → ResultRecord s.blk → step s = .next t → ResultRecord t.blk

/-- The reset state meets every invariant (spec/10_state.md R40). -/
def Obligations.ResetMeetsTheInvariants : Prop :=
  BufferBounds State.reset.blk ∧ SealedFrameHasTrailer State.reset.blk ∧
    OverflowMeansFull State.reset.blk ∧ ResultRecord State.reset.blk ∧
    Memory.wf State.reset.blk = true

/-! ### The CRC engine -/

/-- The CRC step XORs the byte into the low byte and shifts right eight times, XORing 0xA001 where
bit 0 was set before the shift (spec/40_crc.md R101). The last two clauses are that rule's
cross-checks, which it marks as general knowledge: the model's polynomial constant is 0x8005
reversed, and the check value, which spec/95_test_vectors.md V-CRC-5 derives from the rule. -/
def Obligations.CrcStepShiftsEightTimes : Prop :=
  (∀ (r : Half) (b : Byte), crcStep r b =
    (fun x : Half => if x.getLsbD 0 then (x >>> 1) ^^^ 0xA001#16 else x >>> 1)^[8]
      (r ^^^ b.setWidth 16)) ∧
  (∀ (r : Half) (b : Byte), (r ^^^ b.setWidth 16).extractLsb' 8 8 = r.extractLsb' 8 8 ∧
    (r ^^^ b.setWidth 16).extractLsb' 0 8 = r.extractLsb' 0 8 ^^^ b) ∧
  Config.crcPoly = (0x8005#16).reverse ∧
  crc16 [0x31#8, 0x32#8, 0x33#8, 0x34#8, 0x35#8, 0x36#8, 0x37#8, 0x38#8, 0x39#8] = 0x4B37#16

/-- `crc16` starts at 0xFFFF and steps over the bytes from index 0 up: the two equations that
spec/40_crc.md R100 marks as derived from it. -/
def Obligations.CrcFoldsFromTheFirstByte : Prop :=
  crc16 [] = 0xFFFF#16 ∧
    ∀ (bs : List Byte) (b : Byte), crc16 (bs ++ [b]) = crcStep (crc16 bs) b

/-- Different registers stay different under the same byte, and different bytes take a register to
different registers: the fact behind the detection of single-byte errors (spec/40_crc.md R101;
spec/93_implementation_defined.md G5). -/
def Obligations.CrcStepLosesNothing : Prop :=
  (∀ (b : Byte) (r r' : Half), crcStep r b = crcStep r' b → r = r') ∧
    ∀ (r : Half) (b b' : Byte), crcStep r b = crcStep r b' → b = b'

/-- CRC_INIT loads 0xFFFF and changes nothing else (spec/40_crc.md R103). -/
def Obligations.CrcInitLoadsTheInitialValue : Prop :=
  decode 0x40001#19 = .crcInit ∧
    ∀ s : State, exec .crcInit s = .next (s.completeWrite { s.blk with crc := 0xFFFF#16 })

/-- WR_CRC_IN steps the accumulator with its byte from whatever it holds and changes nothing else
(spec/40_crc.md R104). -/
def Obligations.WrCrcInStepsTheAccumulator : Prop :=
  (∀ b : Byte, decode (0x40200#19 ||| b.setWidth 19) = .wrCrcIn b) ∧
  (∀ (s : State) (b : Byte), exec (.wrCrcIn b) s =
    .next (s.completeWrite { s.blk with crc := crcStep s.blk.crc b })) ∧
  crcStep 0xFFFF#16 0x01#8 = 0x807E#16

/-- RD_CRC_HI and RD_CRC_LO return the two bytes of the accumulator and change nothing
(spec/40_crc.md R105, R106). -/
def Obligations.CrcReadsReturnTheAccumulator : Prop :=
  (∀ d : Byte, decode (0x00300#19 ||| d.setWidth 19) = .rdCrcHi ∧
    decode (0x00400#19 ||| d.setWidth 19) = .rdCrcLo) ∧
  ∀ s : State, exec .rdCrcHi s = .next (s.completeRead (s.blk.crc.extractLsb' 8 8)) ∧
    exec .rdCrcLo s = .next (s.completeRead (s.blk.crc.extractLsb' 0 8))

/-- After CRC_INIT the accumulator is the CRC of the bytes fed since, whatever accesses other than
CRC_INIT and SOFT_RESET come between: the law the spec marks as derived in spec/40_crc.md R107.
A run of accesses has no `rst` in it. -/
def Obligations.AccumulatorHoldsTheCrcOfTheFedBytes : Prop :=
  ∀ (is : List Instr) (s : State), (∀ i ∈ is, i ≠ .crcInit ∧ i ≠ .softReset) →
    ∃ t, runAccesses (.crcInit :: is) s = .next t ∧ t.blk.crc = crc16 (fedBytes is)

/-- A body sealed with its trailer re-verifies: the CRC recomputed over the frame is the CRC its
trailer claims, and it is the CRC of the body (the law the spec marks as derived in
spec/40_crc.md R108). The frames that verify are exactly the bodies sealed with their trailer. -/
def Obligations.CrcRoundTrip : Prop :=
  (∀ d : List Byte, recomputedCrc (withTrailer d) = claimedCrc (withTrailer d) ∧
    claimedCrc (withTrailer d) = d.foldl crcStep 0xFFFF#16) ∧
  ∀ f : List Byte, 2 ≤ f.length →
    (recomputedCrc f = claimedCrc f ↔ f = withTrailer (f.take (f.length - 2)))

/-! ### The request side -/

/-- A request frame is address, function code, payload and the CRC of the bytes before it, the high
byte first (spec/41_frame_tx.md R120); the length is the sentence that rule marks as derived. -/
def Obligations.EncodedFrameLayout : Prop :=
  ∀ (a f : Byte) (p : List Byte),
    encodeFrame a f p = [a, f] ++ p ++
      [(crc16 ([a, f] ++ p)).extractLsb' 8 8, (crc16 ([a, f] ++ p)).extractLsb' 0 8] ∧
    (encodeFrame a f p).length = p.length + 4

/-- The reply-length table; every other function code gives 0 (spec/41_frame_tx.md R121). The
payload lengths beside it are the column that rule marks as derived. -/
def Obligations.ReplyLengthTable : Prop :=
  (∀ e ∈ ([(30, 8, 4), (31, 5, 1), (32, 8, 4), (33, 5, 1), (48, 10, 6), (66, 5, 1), (67, 8, 4),
      (73, 9, 5), (74, 9, 5), (95, 5, 1)] : List (Byte × Byte × Nat)),
    replyLen e.1 = e.2.1 ∧ (replyLen e.1).toNat - 4 = e.2.2) ∧
  ∀ f : Byte, f ∉ ([30, 31, 32, 33, 48, 66, 67, 73, 74, 95] : List Byte) → replyLen f = 0#8

/-- WR_REQ_ADDR holds every byte as the request address and changes nothing else, `tx` included
(spec/41_frame_tx.md R122). -/
def Obligations.WrReqAddrHoldsItsByte : Prop :=
  (∀ a : Byte, decode (0x40500#19 ||| a.setWidth 19) = .wrReqAddr a) ∧
  ∀ (s : State) (a : Byte), exec (.wrReqAddr a) s =
    .next (s.completeWrite { s.blk with reqAddr := a })

/-- WR_REQ_FC holds every byte as the request function code and changes nothing else; EXP_LEN
follows at once, and a code above 127 makes CHECK report NONMATCHING_FC for every frame that
decodes (spec/41_frame_tx.md R124). -/
def Obligations.WrReqFcHoldsItsByte : Prop :=
  (∀ f : Byte, decode (0x40600#19 ||| f.setWidth 19) = .wrReqFc f) ∧
  (∀ (s : State) (f : Byte), ∃ t, exec (.wrReqFc f) s = .next t ∧
    t = s.completeWrite { s.blk with reqFc := f } ∧
    exec .rdExpLen t = .next (t.completeRead (replyLen f)) ∧
    t.blk.status.getLsbD 4 =
      (replyLen f != 0#8 && t.blk.rx.length == (replyLen f).toNat)) ∧
  ∀ s : State, 127#8 < s.blk.reqFc → (decodeFrame s.blk.rx).result = 0x01#8 →
    ∃ t, exec .check s = .next t ∧ t.blk.result = 0x05#8

/-- RD_REQ_ADDR, RD_REQ_FC and RD_EXP_LEN return the two registers and the reply length of the
function code, and change nothing (spec/41_frame_tx.md R123, R125, R126). -/
def Obligations.RequestReadsReturnTheRegisters : Prop :=
  (∀ d : Byte, decode (0x00500#19 ||| d.setWidth 19) = .rdReqAddr ∧
    decode (0x00600#19 ||| d.setWidth 19) = .rdReqFc ∧
    decode (0x00700#19 ||| d.setWidth 19) = .rdExpLen) ∧
  ∀ s : State, exec .rdReqAddr s = .next (s.completeRead s.blk.reqAddr) ∧
    exec .rdReqFc s = .next (s.completeRead s.blk.reqFc) ∧
    exec .rdExpLen s = .next (s.completeRead (replyLen s.blk.reqFc))

/-- TX_START begins a frame with the request address and function code and clears TX_SEALED and
TX_OVF; nothing else changes (spec/41_frame_tx.md R130). -/
def Obligations.TxStartBeginsAFrame : Prop :=
  decode 0x40003#19 = .txStart ∧
  ∀ s : State, exec .txStart s = .next (s.completeWrite
    { s.blk with tx := [s.blk.reqAddr, s.blk.reqFc], txSealed := false, txOvf := false })

/-- WR_TX_IN on a sealed frame raises ACC_ERR only; else with 248 bytes or more it raises TX_OVF
only; else it appends its byte only (spec/41_frame_tx.md R131). -/
def Obligations.WrTxInAppendsOrFlags : Prop :=
  (∀ b : Byte, decode (0x40A00#19 ||| b.setWidth 19) = .wrTxIn b) ∧
  ∀ (s : State) (b : Byte),
    (s.blk.txSealed = true →
      exec (.wrTxIn b) s = .next (s.completeWrite { s.blk with accErr := true })) ∧
    (s.blk.txSealed = false → 248 ≤ s.blk.tx.length →
      exec (.wrTxIn b) s = .next (s.completeWrite { s.blk with txOvf := true })) ∧
    (s.blk.txSealed = false → s.blk.tx.length < 248 →
      exec (.wrTxIn b) s = .next (s.completeWrite { s.blk with tx := s.blk.tx ++ [b] }))

/-- TX_SEAL on a sealed frame raises ACC_ERR only; else, where the trailer fits, it appends the CRC
of `tx`, the high byte first, and sets TX_SEALED; the branch for a longer frame raises TX_OVF. The
accumulator plays no part (spec/41_frame_tx.md R132). -/
def Obligations.TxSealAppendsTheTrailer : Prop :=
  decode 0x40004#19 = .txSeal ∧
  ∀ s : State,
    (s.blk.txSealed = true →
      exec .txSeal s = .next (s.completeWrite { s.blk with accErr := true })) ∧
    (s.blk.txSealed = false → 248 < s.blk.tx.length →
      exec .txSeal s = .next (s.completeWrite { s.blk with txOvf := true })) ∧
    (s.blk.txSealed = false → s.blk.tx.length ≤ 248 →
      exec .txSeal s = .next (s.completeWrite { s.blk with
        tx := s.blk.tx ++ [(crc16 s.blk.tx).extractLsb' 8 8, (crc16 s.blk.tx).extractLsb' 0 8],
        txSealed := true }))

/-- RD_TX_LEN returns the length of `tx`, and RD_TX_WIN the byte at its index, 0x00 at or past the
length; neither changes anything (spec/41_frame_tx.md R133, R134). -/
def Obligations.TxReadsReturnTheFrame : Prop :=
  (∀ d : Byte, decode (0x00B00#19 ||| d.setWidth 19) = .rdTxLen) ∧
  (∀ i d : Byte,
    decode (0x20000#19 ||| i.setWidth 19 <<< 8 ||| d.setWidth 19) = .rdTxWin i) ∧
  (∀ s : State, ∃ v, exec .rdTxLen s = .next (s.completeRead v) ∧
    (s.blk.tx.length ≤ 250 → v.toNat = s.blk.tx.length)) ∧
  ∀ (s : State) (i : Byte), ∃ v, exec (.rdTxWin i) s = .next (s.completeRead v) ∧
    (∀ h : i.toNat < s.blk.tx.length, v = s.blk.tx[i.toNat]) ∧
    (s.blk.tx.length ≤ i.toNat → v = 0x00#8)

/-- From any state, the encode sequence leaves `encode(a, f, p)` sealed in `tx`, with the payload
cut after FRAME_MAX - 4 bytes and TX_OVF raised where it is longer; `rx`, `crc` and the result
registers do not change: the law the spec marks as derived in spec/41_frame_tx.md R135. -/
def Obligations.EncodeSequenceBuildsTheFrame : Prop :=
  ∀ (s : State) (a f : Byte) (p : List Byte), ∃ t,
    runAccesses ([.wrReqAddr a, .wrReqFc f, .txStart] ++ p.map .wrTxIn ++ [.txSeal]) s =
      .next t ∧
    t.blk.tx = encodeFrame a f (p.take 246) ∧ t.blk.txSealed = true ∧
    t.blk.txOvf = decide (246 < p.length) ∧
    t.blk.rx = s.blk.rx ∧ t.blk.crc = s.blk.crc ∧ t.blk.outcome = s.blk.outcome

/-! ### The receive side -/

/-- RX_CLEAR empties `rx`, clears RX_OVF and sets every result register to NONE or 0; nothing else
changes (spec/42_frame_rx.md R150). -/
def Obligations.RxClearEmptiesTheBuffer : Prop :=
  decode 0x40002#19 = .rxClear ∧
  ∀ s : State, exec .rxClear s = .next (s.completeWrite
    { s.blk with
      rx := [], rxOvf := false, result := 0x00#8, rspAddr := 0#8, rspFc := 0#8, devErr := 0#8,
      devClass := 0#8, crcExp := 0x0000#16, crcGot := 0x0000#16, payLen := 0#8 })

/-- WR_RX_IN raises RX_OVF only where `rx` holds FRAME_MAX bytes, and else appends its byte only
(spec/42_frame_rx.md R151). -/
def Obligations.WrRxInAppendsOrFlags : Prop :=
  (∀ b : Byte, decode (0x40800#19 ||| b.setWidth 19) = .wrRxIn b) ∧
  ∀ (s : State) (b : Byte),
    (s.blk.rx.length = 250 →
      exec (.wrRxIn b) s = .next (s.completeWrite { s.blk with rxOvf := true })) ∧
    (s.blk.rx.length ≠ 250 →
      exec (.wrRxIn b) s = .next (s.completeWrite { s.blk with rx := s.blk.rx ++ [b] }))

/-- RD_RX_LEN returns the length of `rx`, and RD_RX_WIN the byte at its index, 0x00 at or past the
length; neither changes anything (spec/42_frame_rx.md R152, R153). -/
def Obligations.RxReadsReturnTheBuffer : Prop :=
  (∀ d : Byte, decode (0x00900#19 ||| d.setWidth 19) = .rdRxLen) ∧
  (∀ i d : Byte,
    decode (0x10000#19 ||| i.setWidth 19 <<< 8 ||| d.setWidth 19) = .rdRxWin i) ∧
  (∀ s : State, ∃ v, exec .rdRxLen s = .next (s.completeRead v) ∧
    (s.blk.rx.length ≤ 250 → v.toNat = s.blk.rx.length)) ∧
  ∀ (s : State) (i : Byte), ∃ v, exec (.rdRxWin i) s = .next (s.completeRead v) ∧
    (∀ h : i.toNat < s.blk.rx.length, v = s.blk.rx[i.toNat]) ∧
    (s.blk.rx.length ≤ i.toNat → v = 0x00#8)

/-- The whole decode function: TOO_SHORT below 5 bytes; else DEVICE_ERROR for a function code above
127, before any CRC check; else BAD_CRC where the recomputed CRC differs from the trailer; else OK;
each with all eight fields, and the classification of a raw device error code
(spec/42_frame_rx.md R157, R158). For a buffer of 260 bytes or more, which no reachable state
holds, PAY_LEN is `L - 4` modulo 256: the model's choice (notes/assumptions/11.md). -/
def Obligations.FrameDecoderOutcomes : Prop :=
  (∀ buf : List Byte, buf.length < 5 →
    decodeFrame buf = ⟨0x02#8, 0#8, 0#8, 0#8, 0#8, 0#16, 0#16, 0#8⟩) ∧
  (∀ (a f c h l : Byte) (p : List Byte), decodeFrame ([a, f, c] ++ p ++ [h, l]) =
    if 127#8 < f then ⟨0x03#8, a, f, c, classify c, 0#16, 0#16, 0#8⟩
    else if crc16 ([a, f, c] ++ p) ≠ (h.setWidth 16 <<< 8 ||| l.setWidth 16) then
      ⟨0x04#8, a, f, 0#8, 0#8, crc16 ([a, f, c] ++ p), h.setWidth 16 <<< 8 ||| l.setWidth 16, 0#8⟩
    else
      ⟨0x01#8, a, f, 0#8, 0#8, crc16 ([a, f, c] ++ p), h.setWidth 16 <<< 8 ||| l.setWidth 16,
        BitVec.ofNat 8 (p.length + 1)⟩) ∧
  (classify 1#8 = 0x01#8 ∧ classify 2#8 = 0x02#8 ∧ classify 3#8 = 0x03#8 ∧
    classify 4#8 = 0x04#8 ∧ classify 32#8 = 0x05#8 ∧
    ∀ c : Byte, c ∉ ([1, 2, 3, 4, 32] : List Byte) → classify c = 0x06#8)

/-- Validation: a codec error is kept; else a different function code gives NONMATCHING_FC; else a
different address gives WRONG_ADDRESS unless the request address is 250; only `result` changes
(spec/42_frame_rx.md R159). -/
def Obligations.ValidateChecksCodeThenAddress : Prop :=
  ∀ (o : FrameOutcome) (ra rf : Byte),
    (o.result ≠ 0x01#8 → validate o ra rf = o) ∧
    (o.result = 0x01#8 → o.rspFc ≠ rf → validate o ra rf = { o with result := 0x05#8 }) ∧
    (o.result = 0x01#8 → o.rspFc = rf → ra ≠ 250#8 → o.rspAddr ≠ ra →
      validate o ra rf = { o with result := 0x06#8 }) ∧
    (o.result = 0x01#8 → o.rspFc = rf → (ra = 250#8 ∨ o.rspAddr = ra) → validate o ra rf = o)

/-- DECODE writes the eight result fields of `decode(rx)` and changes nothing else
(spec/42_frame_rx.md R160). -/
def Obligations.DecodeWritesTheOutcome : Prop :=
  decode 0x40005#19 = .decode ∧
  ∀ s : State, exec .decode s = .next (s.completeWrite
    { s.blk with
      result := (decodeFrame s.blk.rx).result, rspAddr := (decodeFrame s.blk.rx).rspAddr,
      rspFc := (decodeFrame s.blk.rx).rspFc, devErr := (decodeFrame s.blk.rx).devErr,
      devClass := (decodeFrame s.blk.rx).devClass, crcExp := (decodeFrame s.blk.rx).crcExp,
      crcGot := (decodeFrame s.blk.rx).crcGot, payLen := (decodeFrame s.blk.rx).payLen })

/-- CHECK writes the eight result fields of `validate(decode(rx), req_addr, req_fc)` and changes
nothing else; a device error is reported whatever its address and function code
(spec/42_frame_rx.md R161). -/
def Obligations.CheckWritesTheValidatedOutcome : Prop :=
  decode 0x40006#19 = .check ∧
  (∀ (s : State) (o : FrameOutcome),
    o = validate (decodeFrame s.blk.rx) s.blk.reqAddr s.blk.reqFc →
      exec .check s = .next (s.completeWrite
        { s.blk with
          result := o.result, rspAddr := o.rspAddr, rspFc := o.rspFc, devErr := o.devErr,
          devClass := o.devClass, crcExp := o.crcExp, crcGot := o.crcGot,
          payLen := o.payLen })) ∧
  ∀ s t : State, exec .check s = .next t →
    (s.blk.reqAddr = 250#8 → t.blk.result ≠ 0x06#8) ∧
    (127#8 < s.blk.reqFc → (decodeFrame s.blk.rx).result = 0x01#8 → t.blk.result = 0x05#8) ∧
    ((decodeFrame s.blk.rx).result = 0x03#8 → t.blk.result = 0x03#8)

/-- DECODE and CHECK write exactly one RESULT code, that of the first cause that holds in the order
TOO_SHORT, DEVICE_ERROR, BAD_CRC, NONMATCHING_FC, WRONG_ADDRESS; the last two are CHECK's only
(spec/60_exceptions.md R222). -/
def Obligations.FirstFailureIsReported : Prop :=
  ∀ s : State,
    (∃ t, exec .check s = .next t ∧
      (t.blk.result = 0x02#8 ↔ s.blk.TooShort) ∧
      (t.blk.result = 0x03#8 ↔ ¬s.blk.TooShort ∧ s.blk.ErrorReply) ∧
      (t.blk.result = 0x04#8 ↔ ¬s.blk.TooShort ∧ ¬s.blk.ErrorReply ∧ s.blk.CrcDiffers) ∧
      (t.blk.result = 0x05#8 ↔ ¬s.blk.TooShort ∧ ¬s.blk.ErrorReply ∧ ¬s.blk.CrcDiffers ∧
        s.blk.OtherFunctionCode) ∧
      (t.blk.result = 0x06#8 ↔ ¬s.blk.TooShort ∧ ¬s.blk.ErrorReply ∧ ¬s.blk.CrcDiffers ∧
        ¬s.blk.OtherFunctionCode ∧ s.blk.OtherAddress) ∧
      (t.blk.result = 0x01#8 ↔ ¬s.blk.TooShort ∧ ¬s.blk.ErrorReply ∧ ¬s.blk.CrcDiffers ∧
        ¬s.blk.OtherFunctionCode ∧ ¬s.blk.OtherAddress)) ∧
    (∃ t, exec .decode s = .next t ∧
      (t.blk.result = 0x02#8 ↔ s.blk.TooShort) ∧
      (t.blk.result = 0x03#8 ↔ ¬s.blk.TooShort ∧ s.blk.ErrorReply) ∧
      (t.blk.result = 0x04#8 ↔ ¬s.blk.TooShort ∧ ¬s.blk.ErrorReply ∧ s.blk.CrcDiffers) ∧
      (t.blk.result = 0x01#8 ↔ ¬s.blk.TooShort ∧ ¬s.blk.ErrorReply ∧ ¬s.blk.CrcDiffers))

/-- With request address 250 CHECK accepts a frame that decodes from any address; every other
request address, 251 to 255 included, is compared (spec/42_frame_rx.md R162). -/
def Obligations.OnlyAddress250IsTransparent : Prop :=
  ∀ s : State, (decodeFrame s.blk.rx).result = 0x01#8 → byteAt s.blk.rx 1 = s.blk.reqFc →
    ∃ t, exec .check s = .next t ∧
      (s.blk.reqAddr = 250#8 → t.blk.result = 0x01#8) ∧
      (s.blk.reqAddr ≠ 250#8 → byteAt s.blk.rx 0 = s.blk.reqAddr → t.blk.result = 0x01#8) ∧
      (s.blk.reqAddr ≠ 250#8 → byteAt s.blk.rx 0 ≠ s.blk.reqAddr → t.blk.result = 0x06#8)

/-- Pushing `encode(a, f, p)` into an empty `rx` and decoding gives OK with the address, function
code, payload length and payload back, for every address, every function code up to 127 and every
payload of 1 to FRAME_MAX - 4 bytes; an empty payload gives TOO_SHORT: the law the spec marks as
derived in spec/42_frame_rx.md R180. -/
def Obligations.FrameRoundTrip : Prop :=
  ∀ (s : State) (a f : Byte) (p : List Byte), s.blk.rx = [] → f ≤ 127#8 → p.length ≤ 246 →
    ∃ t, runAccesses ((encodeFrame a f p).map .wrRxIn ++ [.decode]) s = .next t ∧
      (p = [] → t.blk.result = 0x02#8) ∧
      (p ≠ [] → t.blk.result = 0x01#8 ∧ t.blk.rspAddr = a ∧ t.blk.rspFc = f ∧
        t.blk.payLen.toNat = p.length ∧ (t.blk.rx.drop 2).take p.length = p)

/-- Changing one byte of a frame that decodes makes DECODE report DEVICE_ERROR where byte 1 was
changed to a value above 127, and BAD_CRC otherwise: the law the spec marks as derived, and its
BAD_CRC half as general knowledge, in spec/42_frame_rx.md R181. -/
def Obligations.SingleByteChangeIsDetected : Prop :=
  ∀ (s : State) (g : List Byte) (j : Nat) (v : Byte), (decodeFrame g).result = 0x01#8 →
    j < g.length → byteAt g j ≠ v → s.blk.rx = g.set j v →
      ∃ t, exec .decode s = .next t ∧
        t.blk.result = if j = 1 ∧ 127#8 < v then 0x03#8 else 0x04#8

/-- The ten result-register reads return the field named and change nothing
(spec/42_frame_rx.md §5). -/
def Obligations.ResultReadsReturnTheRegisters : Prop :=
  (decode 0x00C00#19 = .rdResult ∧ decode 0x00D00#19 = .rdRspAddr ∧
    decode 0x00E00#19 = .rdRspFc ∧ decode 0x00F00#19 = .rdDevErr ∧
    decode 0x01000#19 = .rdDevClass ∧ decode 0x01100#19 = .rdCrcExpHi ∧
    decode 0x01200#19 = .rdCrcExpLo ∧ decode 0x01300#19 = .rdCrcGotHi ∧
    decode 0x01400#19 = .rdCrcGotLo ∧ decode 0x01500#19 = .rdPayLen) ∧
  ∀ s : State,
    exec .rdResult s = .next (s.completeRead s.blk.result) ∧
    exec .rdRspAddr s = .next (s.completeRead s.blk.rspAddr) ∧
    exec .rdRspFc s = .next (s.completeRead s.blk.rspFc) ∧
    exec .rdDevErr s = .next (s.completeRead s.blk.devErr) ∧
    exec .rdDevClass s = .next (s.completeRead s.blk.devClass) ∧
    exec .rdCrcExpHi s = .next (s.completeRead (s.blk.crcExp.extractLsb' 8 8)) ∧
    exec .rdCrcExpLo s = .next (s.completeRead (s.blk.crcExp.extractLsb' 0 8)) ∧
    exec .rdCrcGotHi s = .next (s.completeRead (s.blk.crcGot.extractLsb' 8 8)) ∧
    exec .rdCrcGotLo s = .next (s.completeRead (s.blk.crcGot.extractLsb' 0 8)) ∧
    exec .rdPayLen s = .next (s.completeRead s.blk.payLen)

/-! ### Control, status and reserved accesses -/

/-- NOP changes no field; ERR_CLEAR clears the three sticky flags and changes nothing else;
SOFT_RESET gives every field its reset value (spec/43_control.md R200, R201, R202). -/
def Obligations.ControlCommands : Prop :=
  (decode 0x40000#19 = .nop ∧ decode 0x40007#19 = .errClear ∧ decode 0x40008#19 = .softReset) ∧
  ∀ s : State,
    exec .nop s = .next (s.completeWrite s.blk) ∧
    exec .errClear s = .next (s.completeWrite
      { s.blk with accErr := false, txOvf := false, rxOvf := false }) ∧
    exec .softReset s = .next (s.completeWrite
      { crc := 0xFFFF#16, reqAddr := 0#8, reqFc := 0#8, tx := [], txSealed := false, rx := [],
        rxOvf := false, txOvf := false, accErr := false, result := 0#8, rspAddr := 0#8,
        rspFc := 0#8, devErr := 0#8, devClass := 0#8, crcExp := 0#16, crcGot := 0#16,
        payLen := 0#8 })

/-- A reserved opcode, and a write to any address other than the six a write acts on, raise ACC_ERR
and change nothing else (spec/43_control.md R203, R207). -/
def Obligations.ReservedWritesOnlyRaiseAccErr : Prop :=
  (∀ op : Byte, 0x09#8 ≤ op → decode (0x40000#19 ||| op.setWidth 19) = .cmdRsvd op) ∧
  (∀ (a : PortAddr) (d : Byte),
    a ∉ ([0x000, 0x002, 0x005, 0x006, 0x008, 0x00A] : List PortAddr) →
      decode (0x40000#19 ||| a.setWidth 19 <<< 8 ||| d.setWidth 19) = .wrIgnored a d) ∧
  (∀ (op : Byte) (s : State),
    exec (.cmdRsvd op) s = .next (s.completeWrite { s.blk with accErr := true })) ∧
  ∀ (a : PortAddr) (d : Byte) (s : State),
    exec (.wrIgnored a d) s = .next (s.completeWrite { s.blk with accErr := true })

/-- RD_STATUS returns the STATUS byte bit by bit and changes nothing: the sticky flags, TX_SEALED,
the two computed bits, and 0 in bits 7 and 6 (spec/43_control.md R205; spec/10_state.md R26). -/
def Obligations.StatusReadShowsEveryFlag : Prop :=
  (∀ d : Byte, decode (0x00100#19 ||| d.setWidth 19) = .rdStatus) ∧
  ∀ s : State, ∃ v : Byte, exec .rdStatus s = .next (s.completeRead v) ∧
    v.getLsbD 0 = s.blk.rxOvf ∧ v.getLsbD 1 = s.blk.txOvf ∧ v.getLsbD 2 = s.blk.accErr ∧
    v.getLsbD 3 = s.blk.txSealed ∧
    (v.getLsbD 4 = true ↔ replyLen s.blk.reqFc ≠ 0#8 ∧
      s.blk.rx.length = (replyLen s.blk.reqFc).toNat) ∧
    (v.getLsbD 5 = true ↔ s.blk.rx.length = 250) ∧
    v.getLsbD 6 = false ∧ v.getLsbD 7 = false

/-- A read of a write-only or reserved address returns 0x00 and changes nothing
(spec/43_control.md R206). -/
def Obligations.ReservedReadsReturnZero : Prop :=
  (∀ (a : PortAddr) (d : Byte),
    (a ∈ ([0x000, 0x002, 0x008, 0x00A] : List PortAddr) ∨ (0x016#10 ≤ a ∧ a ≤ 0x0FF#10) ∨
      0x300#10 ≤ a) →
      decode (a.setWidth 19 <<< 8 ||| d.setWidth 19) = .rdZero a) ∧
  ∀ (a : PortAddr) (s : State), exec (.rdZero a) s = .next (s.completeRead 0x00#8)

/-! ### Rules of the whole block -/

/-- Every read word, at every address and with every DATA field, leaves the whole record unchanged
and returns the byte of the register map (spec/10_state.md R25; spec/20_memory.md R69;
spec/30_encoding.md R85). -/
def Obligations.EveryReadReturnsTheMapAndKeepsTheRecord : Prop :=
  ∀ (w : AccessWord) (s : State), w.getLsbD 18 = false →
    exec (decode w) s =
      .next { s with out := ⟨true, some (s.blk.portRead (w.extractLsb' 8 10))⟩ }

/-- An access repeated back to back leaves the record of one issue: the reads, the register writes,
the ignored writes, the eight commands and the reserved opcodes; WR_CRC_IN, WR_RX_IN, WR_TX_IN and
TX_SEAL do not. The spec marks the commands' part as derived (spec/20_memory.md R69), and the
reserved opcodes follow spec/43_control.md R203 (notes/assumptions/9.md). -/
def Obligations.RepeatedAccesses : Prop :=
  (∀ (i : Instr) (s : State),
    (∀ b, i ≠ .wrCrcIn b) → (∀ b, i ≠ .wrRxIn b) → (∀ b, i ≠ .wrTxIn b) → i ≠ .txSeal →
      ∃ t u, exec i s = .next t ∧ exec i t = .next u ∧ u.blk = t.blk) ∧
  (∀ (w : AccessWord) (s : State), w.getLsbD 18 = false →
    ∃ t, exec (decode w) s = .next t ∧ t.blk = s.blk) ∧
  (∀ (a : PortAddr) (d : Byte) (s : State),
    ∃ t, exec (.wrIgnored a d) s = .next t ∧ t.blk.accErr = true) ∧
  ∀ i ∈ ([.wrCrcIn 0x01#8, .wrRxIn 0x01#8, .wrTxIn 0x01#8, .txSeal] : List Instr),
    ∃ s t u, exec i s = .next t ∧ exec i t = .next u ∧ u.blk ≠ t.blk

/-- Who may change what, field by field: `crc` only CRC_INIT, WR_CRC_IN and SOFT_RESET; RESULT and
the result registers, which are written together, only DECODE, CHECK, RX_CLEAR and SOFT_RESET;
and `rx`, `tx`, `tx_sealed`, `req_addr`, `req_fc`, `rx_ovf`, `tx_ovf` and `acc_err` each only its
own accesses and SOFT_RESET (spec/10_state.md R23, R26, R35, R38, R39;
spec/60_exceptions.md R223; spec/70_reset_and_hazards.md R256, R257, R258). The last clause is about
the model's own field: no access changes the waiting inputs (notes/assumptions/1.md). -/
def Obligations.OnlyTheirOwnAccessesChangeEachField : Prop :=
  ∀ (i : Instr) (s t : State), exec i s = .next t →
    (writesCrc i = false → t.blk.crc = s.blk.crc) ∧
    (writesResults i = false → t.blk.outcome = s.blk.outcome) ∧
    (writesRx i = false → t.blk.rx = s.blk.rx) ∧
    (writesTx i = false → t.blk.tx = s.blk.tx) ∧
    (writesTxSealed i = false → t.blk.txSealed = s.blk.txSealed) ∧
    (writesReqAddr i = false → t.blk.reqAddr = s.blk.reqAddr) ∧
    (writesReqFc i = false → t.blk.reqFc = s.blk.reqFc) ∧
    (writesRxOvf i = false → t.blk.rxOvf = s.blk.rxOvf) ∧
    (writesTxOvf i = false → t.blk.txOvf = s.blk.txOvf) ∧
    (writesAccErr i = false → t.blk.accErr = s.blk.accErr) ∧
    t.inputs = s.inputs

/-- The causes of the three sticky flags: from a record within the buffers' bounds, a flag that was
down goes up exactly on its causes and then no other field changes; a flag that was up goes down
exactly on its clearing accesses (spec/60_exceptions.md R223). -/
def Obligations.StickyFlagsHaveTheirCauses : Prop :=
  ∀ (i : Instr) (s t : State), BufferBounds s.blk → exec i s = .next t →
    (s.blk.rxOvf = false →
      (t.blk.rxOvf = true ↔ (∃ b, i = .wrRxIn b) ∧ s.blk.rx.length = 250) ∧
      (t.blk.rxOvf = true → t.blk = { s.blk with rxOvf := true })) ∧
    (s.blk.txOvf = false →
      (t.blk.txOvf = true ↔
        (∃ b, i = .wrTxIn b) ∧ s.blk.txSealed = false ∧ 248 ≤ s.blk.tx.length) ∧
      (t.blk.txOvf = true → t.blk = { s.blk with txOvf := true })) ∧
    (s.blk.accErr = false →
      (t.blk.accErr = true ↔ (∃ op, i = .cmdRsvd op) ∨ (∃ a d, i = .wrIgnored a d) ∨
        (s.blk.txSealed = true ∧ ((∃ b, i = .wrTxIn b) ∨ i = .txSeal))) ∧
      (t.blk.accErr = true → t.blk = { s.blk with accErr := true })) ∧
    (s.blk.rxOvf = true →
      (t.blk.rxOvf = false ↔ i = .rxClear ∨ i = .errClear ∨ i = .softReset)) ∧
    (s.blk.txOvf = true →
      (t.blk.txOvf = false ↔ i = .txStart ∨ i = .errClear ∨ i = .softReset)) ∧
    (s.blk.accErr = true → (t.blk.accErr = false ↔ i = .errClear ∨ i = .softReset))

/-- The buffers change only by emptying, by starting a frame, or by appending at the end: no access
writes a buffer byte at a chosen index (spec/10_state.md R24; spec/20_memory.md R62). -/
def Obligations.BuffersOnlyGrowAtTheEnd : Prop :=
  ∀ (i : Instr) (s t : State), exec i s = .next t →
    (t.blk.rx = s.blk.rx ∨ t.blk.rx = [] ∨ ∃ b, i = .wrRxIn b ∧ t.blk.rx = s.blk.rx ++ [b]) ∧
    (t.blk.tx = s.blk.tx ∨ t.blk.tx = [] ∨ t.blk.tx = [s.blk.reqAddr, s.blk.reqFc] ∨
      (∃ b, i = .wrTxIn b ∧ t.blk.tx = s.blk.tx ++ [b]) ∨
      (i = .txSeal ∧ t.blk.tx = withTrailer s.blk.tx))

/-- What each access leaves alone, seen through the port: every address reads as before except the
ones listed for the access, the window byte at the append position among them
(spec/10_state.md R25, R36; the rules of each access). -/
def Obligations.WritesKeepEveryOtherPortAddress : Prop :=
  ∀ (i : Instr) (s t : State) (a : PortAddr), exec i s = .next t →
    (match i with
      | .crcInit | .wrCrcIn _ => a ≠ 0x003#10 ∧ a ≠ 0x004#10
      | .wrReqAddr _ => a ≠ 0x005#10
      | .wrReqFc _ => a ≠ 0x001#10 ∧ a ≠ 0x006#10 ∧ a ≠ 0x007#10
      | .wrRxIn _ => a ≠ 0x001#10 ∧ a ≠ 0x009#10 ∧ a.toNat ≠ 0x100 + s.blk.rx.length
      | .wrTxIn _ => a ≠ 0x001#10 ∧ a ≠ 0x00B#10 ∧ a.toNat ≠ 0x200 + s.blk.tx.length
      | .txSeal => a ≠ 0x001#10 ∧ a ≠ 0x00B#10 ∧ a.toNat ≠ 0x200 + s.blk.tx.length ∧
          a.toNat ≠ 0x200 + s.blk.tx.length + 1
      | .txStart => a ≠ 0x001#10 ∧ a ≠ 0x00B#10 ∧ ¬(0x200#10 ≤ a ∧ a ≤ 0x2FF#10)
      | .rxClear => a ≠ 0x001#10 ∧ a ≠ 0x009#10 ∧ ¬(0x00C#10 ≤ a ∧ a ≤ 0x015#10) ∧
          ¬(0x100#10 ≤ a ∧ a ≤ 0x1FF#10)
      | .decode | .check => ¬(0x00C#10 ≤ a ∧ a ≤ 0x015#10)
      | .errClear | .cmdRsvd _ | .wrIgnored _ _ => a ≠ 0x001#10
      | .softReset => False
      | _ => True) →
    t.blk.portRead a = s.blk.portRead a

/-- A 16-bit value read as two bytes, the high byte first, is the value, when no access that can
change it comes between; with such an access between, the pair may mix two values
(spec/70_reset_and_hazards.md R256). -/
def Obligations.TwoByteReadsGiveTheValue : Prop :=
  (∀ (is : List Instr) (s : State), (∀ i ∈ is, writesCrc i = false) →
    ∃ t u v h l, exec .rdCrcHi s = .next t ∧ t.out.rdata = some h ∧
      runAccesses is t = .next u ∧ exec .rdCrcLo u = .next v ∧ v.out.rdata = some l ∧
      h.setWidth 16 <<< 8 ||| l.setWidth 16 = s.blk.crc) ∧
  (∀ (is : List Instr) (s : State), (∀ i ∈ is, writesResults i = false) →
    (∃ t u v h l, exec .rdCrcExpHi s = .next t ∧ t.out.rdata = some h ∧
      runAccesses is t = .next u ∧ exec .rdCrcExpLo u = .next v ∧ v.out.rdata = some l ∧
      h.setWidth 16 <<< 8 ||| l.setWidth 16 = s.blk.crcExp) ∧
    (∃ t u v h l, exec .rdCrcGotHi s = .next t ∧ t.out.rdata = some h ∧
      runAccesses is t = .next u ∧ exec .rdCrcGotLo u = .next v ∧ v.out.rdata = some l ∧
      h.setWidth 16 <<< 8 ||| l.setWidth 16 = s.blk.crcGot)) ∧
  ∃ (s t u v : State) (h l : Byte), exec .rdCrcHi s = .next t ∧ t.out.rdata = some h ∧
    exec .crcInit t = .next u ∧ exec .rdCrcLo u = .next v ∧ v.out.rdata = some l ∧
    h.setWidth 16 <<< 8 ||| l.setWidth 16 ≠ s.blk.crc ∧
    h.setWidth 16 <<< 8 ||| l.setWidth 16 ≠ u.blk.crc

/-- RESULT names the source's error, with the codes its registers record
(spec/60_exceptions.md R224). -/
def Obligations.ResultNamesTheSourceError : Prop :=
  ∀ b : Block,
    (b.result = 0x02#8 → b.sourceError = some .tooShort) ∧
    (b.result = 0x03#8 → b.sourceError = some (.deviceError b.devErr b.devClass)) ∧
    (b.result = 0x04#8 → b.sourceError = some (.badCrc b.crcExp b.crcGot)) ∧
    (b.result = 0x05#8 → b.sourceError = some .nonMatchingFunctionCode) ∧
    (b.result = 0x06#8 → b.sourceError = some .wrongAddress) ∧
    (b.result ≤ 0x06#8 → b.sourceError ≠ some .echoMismatch) ∧
    (b.result = 0x00#8 ∨ b.result = 0x01#8 → b.sourceError = none)

/-- One transaction from any state, with any request and whatever bytes the device replies: the
request is encoded into `tx` and the reply received into `rx`, each cut and flagged where it is too
long; the result registers hold the validated outcome of the reply; and RESULT is OK exactly when
the reply is long enough, is no error reply, has the right CRC and the requested function code, and
comes from the requested address or the request address is 250. In particular a reply
`encode(ra, f, q)` that fits the buffer is OK or WRONG_ADDRESS by its address alone, with its
payload in place (spec/70_reset_and_hazards.md R254, R261). -/
def Obligations.TransactionValidatesItsReply : Prop :=
  ∀ (s : State) (a f : Byte) (p reply : List Byte), ∃ t,
    runAccesses
        ([.wrReqAddr a, .wrReqFc f, .rxClear, .txStart] ++ p.map .wrTxIn ++ [.txSeal] ++
          reply.map .wrRxIn ++ [.check]) s = .next t ∧
    (t.blk.tx = encodeFrame a f (p.take 246) ∧ t.blk.txSealed = true ∧
      t.blk.txOvf = decide (246 < p.length)) ∧
    (t.blk.rx = reply.take 250 ∧ t.blk.rxOvf = decide (250 < reply.length)) ∧
    (t.blk.reqAddr = a ∧ t.blk.reqFc = f) ∧
    t.blk.outcome = validate (decodeFrame (reply.take 250)) a f ∧
    (t.blk.result = 0x01#8 ↔ ¬t.blk.TooShort ∧ ¬t.blk.ErrorReply ∧ ¬t.blk.CrcDiffers ∧
      ¬t.blk.OtherFunctionCode ∧ ¬t.blk.OtherAddress) ∧
    ∀ (ra : Byte) (q : List Byte), f ≤ 127#8 → q ≠ [] → q.length ≤ 246 →
      reply = encodeFrame ra f q →
        t.blk.rxOvf = false ∧ t.blk.rspAddr = ra ∧ t.blk.rspFc = f ∧
        t.blk.payLen.toNat = q.length ∧ (t.blk.rx.drop 2).take q.length = q ∧
        t.blk.result = if a = 250#8 ∨ ra = a then 0x01#8 else 0x06#8
end

