-- ==== Sys2Proof/Laws/Codec.lean ====
section
/-! SUPPORT. The small lemmas of the pure functions: the two bytes of a 16-bit value, the CRC fold,
the trailer, and the four outcomes of the frame decoder. -/

namespace Sys2Proof.Machine

/-! ### Bytes of a 16-bit value -/

/-- The wire bytes of a value read back as that value (spec/20_memory.md R65). -/
@[simp] theorem bigEndian_hi_lo (c : Half) : bigEndian (hiByte c) (loByte c) = c := by
  ext i hi
  simp only [bigEndian, hiByte, loByte, zext16]
  by_cases h : i < 8
  · simp [h, hi]
  · have e : 8 + (i - 8) = i := by omega
    simp [h, hi, e]
    omega

@[simp] theorem hiByte_bigEndian (h l : Byte) : hiByte (bigEndian h l) = h := by
  ext i hi
  have : 8 + i < 16 := by omega
  simp [hiByte, bigEndian, zext16, hi, this]

@[simp] theorem loByte_bigEndian (h l : Byte) : loByte (bigEndian h l) = l := by
  ext i hi
  have : i < 16 := by omega
  simp [loByte, bigEndian, zext16, hi, this]

@[simp] theorem crcTrailer_length (c : Half) : (crcTrailer c).length = 2 := rfl

/-! ### The CRC fold -/

@[simp] theorem crcFold_nil (r : Half) : crcFold r [] = r := rfl

@[simp] theorem crcFold_cons (r : Half) (b : Byte) (bs : List Byte) :
    crcFold r (b :: bs) = crcFold (crcStep r b) bs := rfl

/-- Folding over a concatenation is folding over its parts in order. -/
theorem crcFold_append (r : Half) (xs ys : List Byte) :
    crcFold r (xs ++ ys) = crcFold (crcFold r xs) ys := by
  induction xs generalizing r with
  | nil => rfl
  | cons x xs ih => exact ih (crcStep r x)

/-! ### Frames -/

@[simp] theorem withTrailer_length (body : List Byte) :
    (withTrailer body).length = body.length + 2 := by
  simp [withTrailer]

/-- The bytes before a trailer are the body. -/
@[simp] theorem withTrailer_take (body : List Byte) :
    (withTrailer body).take body.length = body := by
  simp [withTrailer]

/-- The CRC recomputed over a frame with its trailer is the body's. -/
theorem recomputedCrc_withTrailer (body : List Byte) :
    recomputedCrc (withTrailer body) = crc16 body := by
  simp [recomputedCrc]

/-- The CRC claimed by a frame with its trailer is the body's. -/
theorem claimedCrc_withTrailer (body : List Byte) :
    claimedCrc (withTrailer body) = crc16 body := by
  simp [claimedCrc, withTrailer, byteAt, crcTrailer]

/-- The four outcomes of the frame decoder, each with its conditions (spec/42_frame_rx.md R158). -/
theorem decodeFrame_cases (buf : List Byte) :
    (buf.length < 5 ∧ decodeFrame buf = ⟨resTooShort, 0#8, 0#8, 0#8, 0#8, 0#16, 0#16, 0#8⟩) ∨
    (5 ≤ buf.length ∧ 127#8 < byteAt buf 1 ∧
      decodeFrame buf = ⟨resDeviceError, byteAt buf 0, byteAt buf 1, byteAt buf 2,
        classify (byteAt buf 2), 0#16, 0#16, 0#8⟩) ∨
    (5 ≤ buf.length ∧ byteAt buf 1 ≤ 127#8 ∧ recomputedCrc buf ≠ claimedCrc buf ∧
      decodeFrame buf = ⟨resBadCrc, byteAt buf 0, byteAt buf 1, 0#8, 0#8, recomputedCrc buf,
        claimedCrc buf, 0#8⟩) ∨
    (5 ≤ buf.length ∧ byteAt buf 1 ≤ 127#8 ∧ recomputedCrc buf = claimedCrc buf ∧
      decodeFrame buf = ⟨resOk, byteAt buf 0, byteAt buf 1, 0#8, 0#8, recomputedCrc buf,
        claimedCrc buf, BitVec.ofNat 8 (buf.length - 4)⟩) := by
  unfold decodeFrame
  by_cases hl : buf.length < 5
  · exact .inl ⟨hl, if_pos hl⟩
  · have hl' : 5 ≤ buf.length := by omega
    refine .inr ?_
    by_cases hf : 127#8 < byteAt buf 1
    · exact .inl ⟨hl', hf, (if_neg hl).trans (if_pos hf)⟩
    · have hf' : byteAt buf 1 ≤ 127#8 := BitVec.not_lt.mp hf
      refine .inr ?_
      by_cases hc : recomputedCrc buf = claimedCrc buf
      · exact .inr ⟨hl', hf', hc, (if_neg hl).trans ((if_neg hf).trans (if_neg (not_not.mpr hc)))⟩
      · exact .inl ⟨hl', hf', hc, (if_neg hl).trans ((if_neg hf).trans (if_pos hc))⟩

/-- Validation changes `result` only (spec/42_frame_rx.md R159). -/
theorem validate_keeps_registers (o : FrameOutcome) (ra rf : Byte) :
    validate o ra rf = { o with result := (validate o ra rf).result } := by
  unfold validate
  split
  · rfl
  · split
    · rfl
    · split <;> rfl

/-- The four cases of the validation, each with its conditions (spec/42_frame_rx.md R159). -/
theorem validate_cases (o : FrameOutcome) (ra rf : Byte) :
    (o.result ≠ resOk ∧ validate o ra rf = o) ∨
    (o.result = resOk ∧ o.rspFc ≠ rf ∧ validate o ra rf = { o with result := resNonmatchingFc }) ∨
    (o.result = resOk ∧ o.rspFc = rf ∧ ra ≠ 250#8 ∧ o.rspAddr ≠ ra ∧
      validate o ra rf = { o with result := resWrongAddress }) ∨
    (o.result = resOk ∧ o.rspFc = rf ∧ (ra = 250#8 ∨ o.rspAddr = ra) ∧ validate o ra rf = o) := by
  unfold validate
  by_cases h : o.result = resOk
  · refine .inr ?_
    by_cases h1 : o.rspFc = rf
    · refine .inr ?_
      by_cases h2 : ra ≠ 250#8 ∧ o.rspAddr ≠ ra
      · exact .inl ⟨h, h1, h2.1, h2.2, by
          rw [if_neg (not_not.mpr h), if_neg (not_not.mpr h1)]; exact if_pos h2⟩
      · refine .inr ⟨h, h1, ?_, by
          rw [if_neg (not_not.mpr h), if_neg (not_not.mpr h1)]; exact if_neg h2⟩
        rwa [not_and_or, not_not, not_not] at h2
    · exact .inl ⟨h, h1, by rw [if_neg (not_not.mpr h), if_pos h1]⟩
  · exact .inl ⟨h, if_pos h⟩

end Sys2Proof.Machine
end

