-- ==== Sys2Proof/Laws/Decode.lean ====
section
/-! SUPPORT. The fields of an assembled access word read back, and what the decoder does on a word
assembled from its fields (spec/30_encoding.md R80, R87). -/

namespace Sys2Proof

@[simp] theorem rwField_accessWord (rw : Bool) (a : PortAddr) (d : Byte) :
    rwField (accessWord rw a d) = rw := by
  simp [rwField, accessWord]

@[simp] theorem addrField_accessWord (rw : Bool) (a : PortAddr) (d : Byte) :
    addrField (accessWord rw a d) = a := by
  ext i hi
  have h : 8 + i < 19 := by omega
  have h' : 8 + i < 18 := by omega
  simp [addrField, accessWord, hi, h, h']

@[simp] theorem dataField_accessWord (rw : Bool) (a : PortAddr) (d : Byte) :
    dataField (accessWord rw a d) = d := by
  ext i hi
  have h : i < 19 := by omega
  have h' : i < 18 := by omega
  simp [dataField, accessWord, hi, h, h']

/-- An access word is assembled from its own fields. -/
theorem accessWord_fields (w : AccessWord) :
    accessWord (rwField w) (addrField w) (dataField w) = w := by
  ext i hi
  simp only [accessWord, rwField, addrField, dataField]
  by_cases h8 : i < 8
  · have : i < 18 := by omega
    simp [h8, this, hi]
  · by_cases h18 : i < 18
    · have e : 8 + (i - 8) = i := by omega
      have h10 : i - 8 < 10 := by omega
      simp [h8, h18, h10, hi, e]
    · have e : i = 18 := by omega
      subst e
      simp

/-- Decoding an assembled word is decoding its fields. -/
theorem decode_accessWord (rw : Bool) (a : PortAddr) (d : Byte) :
    decode (accessWord rw a d) = if rw then decodeWrite a d else decodeRead a := by
  simp [decode]

theorem decode_encodeCommand (op : Byte) : decode (encodeCommand op) = decodeCommand op := by
  simp [encodeCommand, decode_accessWord, decodeWrite]

theorem decode_encodeRead (a : PortAddr) : decode (encodeRead a) = decodeRead a := by
  simp [encodeRead, decode_accessWord]

/-- The number of a write word: `0x40000 or (ADDR << 8) or DATA` (spec/30_encoding.md R80). -/
theorem writeWord_eq (a : PortAddr) (d : Byte) :
    0x40000#19 ||| a.setWidth 19 <<< 8 ||| d.setWidth 19 = accessWord true a d := by
  have h : (BitVec.ofBool true).setWidth 19 <<< 18 = 0x40000#19 := by decide
  simp only [accessWord, h]

/-- The number of a read word: `(ADDR << 8) or DATA` (spec/30_encoding.md R80). -/
theorem readWord_eq (a : PortAddr) (d : Byte) :
    a.setWidth 19 <<< 8 ||| d.setWidth 19 = accessWord false a d := by
  simp [accessWord]

/-- A reserved opcode is none of the nine assigned ones (spec/30_encoding.md R83). -/
theorem decodeCommand_reserved (op : Byte) (h : 0x09#8 ≤ op) : decodeCommand op = .cmdRsvd op := by
  have ne : ∀ k : Byte, k < 0x09#8 → op ≠ k := fun k hk e => by
    subst e; exact absurd hk (BitVec.not_lt.mpr h)
  simp [decodeCommand, ne _ (by decide : 0x00#8 < 0x09#8), ne _ (by decide : 0x01#8 < 0x09#8),
    ne _ (by decide : 0x02#8 < 0x09#8), ne _ (by decide : 0x03#8 < 0x09#8),
    ne _ (by decide : 0x04#8 < 0x09#8), ne _ (by decide : 0x05#8 < 0x09#8),
    ne _ (by decide : 0x06#8 < 0x09#8), ne _ (by decide : 0x07#8 < 0x09#8),
    ne _ (by decide : 0x08#8 < 0x09#8)]

/-- A write to an address no write acts on is WR_IGNORED (spec/30_encoding.md R84). -/
theorem decodeWrite_ignored (a : PortAddr) (d : Byte) (h : isWritable a = false) :
    decodeWrite a d = .wrIgnored a d := by
  simp [isWritable] at h
  simp [decodeWrite, h]

/-- The window addresses: `0x100 + i` and `0x200 + i`. -/
theorem decodeRead_rxWin (i : Byte) : decodeRead (0x100#10 + i.setWidth 10) = .rdRxWin i := by
  revert i; decide +kernel

theorem decodeRead_txWin (i : Byte) : decodeRead (0x200#10 + i.setWidth 10) = .rdTxWin i := by
  revert i; decide +kernel

/-- A read of a write-only or reserved address is RD_ZERO (spec/30_encoding.md R85). -/
theorem decodeRead_zero (a : PortAddr) (h : readsAsZero a = true) : decodeRead a = .rdZero a := by
  revert a; decide +kernel

end Sys2Proof
end

