-- ==== Sys2Proof/Laws/State.lean ====
section
/-! SUPPORT. One simp lemma per field per update of the state record and of the machine state, each
true by definition. -/

namespace Sys2Proof.Machine

/-! ### `setCrc` -/

@[simp] theorem Block.setCrc_crc (b : Block) (v : Half) : (b.setCrc v).crc = v := rfl
@[simp] theorem Block.setCrc_reqAddr (b : Block) (v : Half) :
    (b.setCrc v).reqAddr = b.reqAddr := rfl
@[simp] theorem Block.setCrc_reqFc (b : Block) (v : Half) : (b.setCrc v).reqFc = b.reqFc := rfl
@[simp] theorem Block.setCrc_tx (b : Block) (v : Half) : (b.setCrc v).tx = b.tx := rfl
@[simp] theorem Block.setCrc_txSealed (b : Block) (v : Half) :
    (b.setCrc v).txSealed = b.txSealed := rfl
@[simp] theorem Block.setCrc_rx (b : Block) (v : Half) : (b.setCrc v).rx = b.rx := rfl
@[simp] theorem Block.setCrc_rxOvf (b : Block) (v : Half) : (b.setCrc v).rxOvf = b.rxOvf := rfl
@[simp] theorem Block.setCrc_txOvf (b : Block) (v : Half) : (b.setCrc v).txOvf = b.txOvf := rfl
@[simp] theorem Block.setCrc_accErr (b : Block) (v : Half) : (b.setCrc v).accErr = b.accErr := rfl
@[simp] theorem Block.setCrc_result (b : Block) (v : Half) : (b.setCrc v).result = b.result := rfl
@[simp] theorem Block.setCrc_rspAddr (b : Block) (v : Half) :
    (b.setCrc v).rspAddr = b.rspAddr := rfl
@[simp] theorem Block.setCrc_rspFc (b : Block) (v : Half) : (b.setCrc v).rspFc = b.rspFc := rfl
@[simp] theorem Block.setCrc_devErr (b : Block) (v : Half) : (b.setCrc v).devErr = b.devErr := rfl
@[simp] theorem Block.setCrc_devClass (b : Block) (v : Half) :
    (b.setCrc v).devClass = b.devClass := rfl
@[simp] theorem Block.setCrc_crcExp (b : Block) (v : Half) : (b.setCrc v).crcExp = b.crcExp := rfl
@[simp] theorem Block.setCrc_crcGot (b : Block) (v : Half) : (b.setCrc v).crcGot = b.crcGot := rfl
@[simp] theorem Block.setCrc_payLen (b : Block) (v : Half) : (b.setCrc v).payLen = b.payLen := rfl

/-! ### `setReqAddr` -/

@[simp] theorem Block.setReqAddr_crc (b : Block) (v : Byte) : (b.setReqAddr v).crc = b.crc := rfl
@[simp] theorem Block.setReqAddr_reqAddr (b : Block) (v : Byte) :
    (b.setReqAddr v).reqAddr = v := rfl
@[simp] theorem Block.setReqAddr_reqFc (b : Block) (v : Byte) :
    (b.setReqAddr v).reqFc = b.reqFc := rfl
@[simp] theorem Block.setReqAddr_tx (b : Block) (v : Byte) : (b.setReqAddr v).tx = b.tx := rfl
@[simp] theorem Block.setReqAddr_txSealed (b : Block) (v : Byte) :
    (b.setReqAddr v).txSealed = b.txSealed := rfl
@[simp] theorem Block.setReqAddr_rx (b : Block) (v : Byte) : (b.setReqAddr v).rx = b.rx := rfl
@[simp] theorem Block.setReqAddr_rxOvf (b : Block) (v : Byte) :
    (b.setReqAddr v).rxOvf = b.rxOvf := rfl
@[simp] theorem Block.setReqAddr_txOvf (b : Block) (v : Byte) :
    (b.setReqAddr v).txOvf = b.txOvf := rfl
@[simp] theorem Block.setReqAddr_accErr (b : Block) (v : Byte) :
    (b.setReqAddr v).accErr = b.accErr := rfl
@[simp] theorem Block.setReqAddr_result (b : Block) (v : Byte) :
    (b.setReqAddr v).result = b.result := rfl
@[simp] theorem Block.setReqAddr_rspAddr (b : Block) (v : Byte) :
    (b.setReqAddr v).rspAddr = b.rspAddr := rfl
@[simp] theorem Block.setReqAddr_rspFc (b : Block) (v : Byte) :
    (b.setReqAddr v).rspFc = b.rspFc := rfl
@[simp] theorem Block.setReqAddr_devErr (b : Block) (v : Byte) :
    (b.setReqAddr v).devErr = b.devErr := rfl
@[simp] theorem Block.setReqAddr_devClass (b : Block) (v : Byte) :
    (b.setReqAddr v).devClass = b.devClass := rfl
@[simp] theorem Block.setReqAddr_crcExp (b : Block) (v : Byte) :
    (b.setReqAddr v).crcExp = b.crcExp := rfl
@[simp] theorem Block.setReqAddr_crcGot (b : Block) (v : Byte) :
    (b.setReqAddr v).crcGot = b.crcGot := rfl
@[simp] theorem Block.setReqAddr_payLen (b : Block) (v : Byte) :
    (b.setReqAddr v).payLen = b.payLen := rfl

/-! ### `setReqFc` -/

@[simp] theorem Block.setReqFc_crc (b : Block) (v : Byte) : (b.setReqFc v).crc = b.crc := rfl
@[simp] theorem Block.setReqFc_reqAddr (b : Block) (v : Byte) :
    (b.setReqFc v).reqAddr = b.reqAddr := rfl
@[simp] theorem Block.setReqFc_reqFc (b : Block) (v : Byte) : (b.setReqFc v).reqFc = v := rfl
@[simp] theorem Block.setReqFc_tx (b : Block) (v : Byte) : (b.setReqFc v).tx = b.tx := rfl
@[simp] theorem Block.setReqFc_txSealed (b : Block) (v : Byte) :
    (b.setReqFc v).txSealed = b.txSealed := rfl
@[simp] theorem Block.setReqFc_rx (b : Block) (v : Byte) : (b.setReqFc v).rx = b.rx := rfl
@[simp] theorem Block.setReqFc_rxOvf (b : Block) (v : Byte) : (b.setReqFc v).rxOvf = b.rxOvf := rfl
@[simp] theorem Block.setReqFc_txOvf (b : Block) (v : Byte) : (b.setReqFc v).txOvf = b.txOvf := rfl
@[simp] theorem Block.setReqFc_accErr (b : Block) (v : Byte) :
    (b.setReqFc v).accErr = b.accErr := rfl
@[simp] theorem Block.setReqFc_result (b : Block) (v : Byte) :
    (b.setReqFc v).result = b.result := rfl
@[simp] theorem Block.setReqFc_rspAddr (b : Block) (v : Byte) :
    (b.setReqFc v).rspAddr = b.rspAddr := rfl
@[simp] theorem Block.setReqFc_rspFc (b : Block) (v : Byte) : (b.setReqFc v).rspFc = b.rspFc := rfl
@[simp] theorem Block.setReqFc_devErr (b : Block) (v : Byte) :
    (b.setReqFc v).devErr = b.devErr := rfl
@[simp] theorem Block.setReqFc_devClass (b : Block) (v : Byte) :
    (b.setReqFc v).devClass = b.devClass := rfl
@[simp] theorem Block.setReqFc_crcExp (b : Block) (v : Byte) :
    (b.setReqFc v).crcExp = b.crcExp := rfl
@[simp] theorem Block.setReqFc_crcGot (b : Block) (v : Byte) :
    (b.setReqFc v).crcGot = b.crcGot := rfl
@[simp] theorem Block.setReqFc_payLen (b : Block) (v : Byte) :
    (b.setReqFc v).payLen = b.payLen := rfl

/-! ### `setTx` -/

@[simp] theorem Block.setTx_crc (b : Block) (l : List Byte) : (b.setTx l).crc = b.crc := rfl
@[simp] theorem Block.setTx_reqAddr (b : Block) (l : List Byte) :
    (b.setTx l).reqAddr = b.reqAddr := rfl
@[simp] theorem Block.setTx_reqFc (b : Block) (l : List Byte) : (b.setTx l).reqFc = b.reqFc := rfl
@[simp] theorem Block.setTx_tx (b : Block) (l : List Byte) : (b.setTx l).tx = l := rfl
@[simp] theorem Block.setTx_txSealed (b : Block) (l : List Byte) :
    (b.setTx l).txSealed = b.txSealed := rfl
@[simp] theorem Block.setTx_rx (b : Block) (l : List Byte) : (b.setTx l).rx = b.rx := rfl
@[simp] theorem Block.setTx_rxOvf (b : Block) (l : List Byte) : (b.setTx l).rxOvf = b.rxOvf := rfl
@[simp] theorem Block.setTx_txOvf (b : Block) (l : List Byte) : (b.setTx l).txOvf = b.txOvf := rfl
@[simp] theorem Block.setTx_accErr (b : Block) (l : List Byte) :
    (b.setTx l).accErr = b.accErr := rfl
@[simp] theorem Block.setTx_result (b : Block) (l : List Byte) :
    (b.setTx l).result = b.result := rfl
@[simp] theorem Block.setTx_rspAddr (b : Block) (l : List Byte) :
    (b.setTx l).rspAddr = b.rspAddr := rfl
@[simp] theorem Block.setTx_rspFc (b : Block) (l : List Byte) : (b.setTx l).rspFc = b.rspFc := rfl
@[simp] theorem Block.setTx_devErr (b : Block) (l : List Byte) :
    (b.setTx l).devErr = b.devErr := rfl
@[simp] theorem Block.setTx_devClass (b : Block) (l : List Byte) :
    (b.setTx l).devClass = b.devClass := rfl
@[simp] theorem Block.setTx_crcExp (b : Block) (l : List Byte) :
    (b.setTx l).crcExp = b.crcExp := rfl
@[simp] theorem Block.setTx_crcGot (b : Block) (l : List Byte) :
    (b.setTx l).crcGot = b.crcGot := rfl
@[simp] theorem Block.setTx_payLen (b : Block) (l : List Byte) :
    (b.setTx l).payLen = b.payLen := rfl

/-! ### `setRx` -/

@[simp] theorem Block.setRx_crc (b : Block) (l : List Byte) : (b.setRx l).crc = b.crc := rfl
@[simp] theorem Block.setRx_reqAddr (b : Block) (l : List Byte) :
    (b.setRx l).reqAddr = b.reqAddr := rfl
@[simp] theorem Block.setRx_reqFc (b : Block) (l : List Byte) : (b.setRx l).reqFc = b.reqFc := rfl
@[simp] theorem Block.setRx_tx (b : Block) (l : List Byte) : (b.setRx l).tx = b.tx := rfl
@[simp] theorem Block.setRx_txSealed (b : Block) (l : List Byte) :
    (b.setRx l).txSealed = b.txSealed := rfl
@[simp] theorem Block.setRx_rx (b : Block) (l : List Byte) : (b.setRx l).rx = l := rfl
@[simp] theorem Block.setRx_rxOvf (b : Block) (l : List Byte) : (b.setRx l).rxOvf = b.rxOvf := rfl
@[simp] theorem Block.setRx_txOvf (b : Block) (l : List Byte) : (b.setRx l).txOvf = b.txOvf := rfl
@[simp] theorem Block.setRx_accErr (b : Block) (l : List Byte) :
    (b.setRx l).accErr = b.accErr := rfl
@[simp] theorem Block.setRx_result (b : Block) (l : List Byte) :
    (b.setRx l).result = b.result := rfl
@[simp] theorem Block.setRx_rspAddr (b : Block) (l : List Byte) :
    (b.setRx l).rspAddr = b.rspAddr := rfl
@[simp] theorem Block.setRx_rspFc (b : Block) (l : List Byte) : (b.setRx l).rspFc = b.rspFc := rfl
@[simp] theorem Block.setRx_devErr (b : Block) (l : List Byte) :
    (b.setRx l).devErr = b.devErr := rfl
@[simp] theorem Block.setRx_devClass (b : Block) (l : List Byte) :
    (b.setRx l).devClass = b.devClass := rfl
@[simp] theorem Block.setRx_crcExp (b : Block) (l : List Byte) :
    (b.setRx l).crcExp = b.crcExp := rfl
@[simp] theorem Block.setRx_crcGot (b : Block) (l : List Byte) :
    (b.setRx l).crcGot = b.crcGot := rfl
@[simp] theorem Block.setRx_payLen (b : Block) (l : List Byte) :
    (b.setRx l).payLen = b.payLen := rfl

/-! ### `setSealed` -/

@[simp] theorem Block.setSealed_crc (b : Block) (f : Bool) : (b.setSealed f).crc = b.crc := rfl
@[simp] theorem Block.setSealed_reqAddr (b : Block) (f : Bool) :
    (b.setSealed f).reqAddr = b.reqAddr := rfl
@[simp] theorem Block.setSealed_reqFc (b : Block) (f : Bool) :
    (b.setSealed f).reqFc = b.reqFc := rfl
@[simp] theorem Block.setSealed_tx (b : Block) (f : Bool) : (b.setSealed f).tx = b.tx := rfl
@[simp] theorem Block.setSealed_txSealed (b : Block) (f : Bool) :
    (b.setSealed f).txSealed = f := rfl
@[simp] theorem Block.setSealed_rx (b : Block) (f : Bool) : (b.setSealed f).rx = b.rx := rfl
@[simp] theorem Block.setSealed_rxOvf (b : Block) (f : Bool) :
    (b.setSealed f).rxOvf = b.rxOvf := rfl
@[simp] theorem Block.setSealed_txOvf (b : Block) (f : Bool) :
    (b.setSealed f).txOvf = b.txOvf := rfl
@[simp] theorem Block.setSealed_accErr (b : Block) (f : Bool) :
    (b.setSealed f).accErr = b.accErr := rfl
@[simp] theorem Block.setSealed_result (b : Block) (f : Bool) :
    (b.setSealed f).result = b.result := rfl
@[simp] theorem Block.setSealed_rspAddr (b : Block) (f : Bool) :
    (b.setSealed f).rspAddr = b.rspAddr := rfl
@[simp] theorem Block.setSealed_rspFc (b : Block) (f : Bool) :
    (b.setSealed f).rspFc = b.rspFc := rfl
@[simp] theorem Block.setSealed_devErr (b : Block) (f : Bool) :
    (b.setSealed f).devErr = b.devErr := rfl
@[simp] theorem Block.setSealed_devClass (b : Block) (f : Bool) :
    (b.setSealed f).devClass = b.devClass := rfl
@[simp] theorem Block.setSealed_crcExp (b : Block) (f : Bool) :
    (b.setSealed f).crcExp = b.crcExp := rfl
@[simp] theorem Block.setSealed_crcGot (b : Block) (f : Bool) :
    (b.setSealed f).crcGot = b.crcGot := rfl
@[simp] theorem Block.setSealed_payLen (b : Block) (f : Bool) :
    (b.setSealed f).payLen = b.payLen := rfl

/-! ### `flagAccErr` -/

@[simp] theorem Block.flagAccErr_crc (b : Block) : (b.flagAccErr).crc = b.crc := rfl
@[simp] theorem Block.flagAccErr_reqAddr (b : Block) : (b.flagAccErr).reqAddr = b.reqAddr := rfl
@[simp] theorem Block.flagAccErr_reqFc (b : Block) : (b.flagAccErr).reqFc = b.reqFc := rfl
@[simp] theorem Block.flagAccErr_tx (b : Block) : (b.flagAccErr).tx = b.tx := rfl
@[simp] theorem Block.flagAccErr_txSealed (b : Block) : (b.flagAccErr).txSealed = b.txSealed := rfl
@[simp] theorem Block.flagAccErr_rx (b : Block) : (b.flagAccErr).rx = b.rx := rfl
@[simp] theorem Block.flagAccErr_rxOvf (b : Block) : (b.flagAccErr).rxOvf = b.rxOvf := rfl
@[simp] theorem Block.flagAccErr_txOvf (b : Block) : (b.flagAccErr).txOvf = b.txOvf := rfl
@[simp] theorem Block.flagAccErr_accErr (b : Block) : (b.flagAccErr).accErr = true := rfl
@[simp] theorem Block.flagAccErr_result (b : Block) : (b.flagAccErr).result = b.result := rfl
@[simp] theorem Block.flagAccErr_rspAddr (b : Block) : (b.flagAccErr).rspAddr = b.rspAddr := rfl
@[simp] theorem Block.flagAccErr_rspFc (b : Block) : (b.flagAccErr).rspFc = b.rspFc := rfl
@[simp] theorem Block.flagAccErr_devErr (b : Block) : (b.flagAccErr).devErr = b.devErr := rfl
@[simp] theorem Block.flagAccErr_devClass (b : Block) : (b.flagAccErr).devClass = b.devClass := rfl
@[simp] theorem Block.flagAccErr_crcExp (b : Block) : (b.flagAccErr).crcExp = b.crcExp := rfl
@[simp] theorem Block.flagAccErr_crcGot (b : Block) : (b.flagAccErr).crcGot = b.crcGot := rfl
@[simp] theorem Block.flagAccErr_payLen (b : Block) : (b.flagAccErr).payLen = b.payLen := rfl

/-! ### `flagTxOvf` -/

@[simp] theorem Block.flagTxOvf_crc (b : Block) : (b.flagTxOvf).crc = b.crc := rfl
@[simp] theorem Block.flagTxOvf_reqAddr (b : Block) : (b.flagTxOvf).reqAddr = b.reqAddr := rfl
@[simp] theorem Block.flagTxOvf_reqFc (b : Block) : (b.flagTxOvf).reqFc = b.reqFc := rfl
@[simp] theorem Block.flagTxOvf_tx (b : Block) : (b.flagTxOvf).tx = b.tx := rfl
@[simp] theorem Block.flagTxOvf_txSealed (b : Block) : (b.flagTxOvf).txSealed = b.txSealed := rfl
@[simp] theorem Block.flagTxOvf_rx (b : Block) : (b.flagTxOvf).rx = b.rx := rfl
@[simp] theorem Block.flagTxOvf_rxOvf (b : Block) : (b.flagTxOvf).rxOvf = b.rxOvf := rfl
@[simp] theorem Block.flagTxOvf_txOvf (b : Block) : (b.flagTxOvf).txOvf = true := rfl
@[simp] theorem Block.flagTxOvf_accErr (b : Block) : (b.flagTxOvf).accErr = b.accErr := rfl
@[simp] theorem Block.flagTxOvf_result (b : Block) : (b.flagTxOvf).result = b.result := rfl
@[simp] theorem Block.flagTxOvf_rspAddr (b : Block) : (b.flagTxOvf).rspAddr = b.rspAddr := rfl
@[simp] theorem Block.flagTxOvf_rspFc (b : Block) : (b.flagTxOvf).rspFc = b.rspFc := rfl
@[simp] theorem Block.flagTxOvf_devErr (b : Block) : (b.flagTxOvf).devErr = b.devErr := rfl
@[simp] theorem Block.flagTxOvf_devClass (b : Block) : (b.flagTxOvf).devClass = b.devClass := rfl
@[simp] theorem Block.flagTxOvf_crcExp (b : Block) : (b.flagTxOvf).crcExp = b.crcExp := rfl
@[simp] theorem Block.flagTxOvf_crcGot (b : Block) : (b.flagTxOvf).crcGot = b.crcGot := rfl
@[simp] theorem Block.flagTxOvf_payLen (b : Block) : (b.flagTxOvf).payLen = b.payLen := rfl

/-! ### `flagRxOvf` -/

@[simp] theorem Block.flagRxOvf_crc (b : Block) : (b.flagRxOvf).crc = b.crc := rfl
@[simp] theorem Block.flagRxOvf_reqAddr (b : Block) : (b.flagRxOvf).reqAddr = b.reqAddr := rfl
@[simp] theorem Block.flagRxOvf_reqFc (b : Block) : (b.flagRxOvf).reqFc = b.reqFc := rfl
@[simp] theorem Block.flagRxOvf_tx (b : Block) : (b.flagRxOvf).tx = b.tx := rfl
@[simp] theorem Block.flagRxOvf_txSealed (b : Block) : (b.flagRxOvf).txSealed = b.txSealed := rfl
@[simp] theorem Block.flagRxOvf_rx (b : Block) : (b.flagRxOvf).rx = b.rx := rfl
@[simp] theorem Block.flagRxOvf_rxOvf (b : Block) : (b.flagRxOvf).rxOvf = true := rfl
@[simp] theorem Block.flagRxOvf_txOvf (b : Block) : (b.flagRxOvf).txOvf = b.txOvf := rfl
@[simp] theorem Block.flagRxOvf_accErr (b : Block) : (b.flagRxOvf).accErr = b.accErr := rfl
@[simp] theorem Block.flagRxOvf_result (b : Block) : (b.flagRxOvf).result = b.result := rfl
@[simp] theorem Block.flagRxOvf_rspAddr (b : Block) : (b.flagRxOvf).rspAddr = b.rspAddr := rfl
@[simp] theorem Block.flagRxOvf_rspFc (b : Block) : (b.flagRxOvf).rspFc = b.rspFc := rfl
@[simp] theorem Block.flagRxOvf_devErr (b : Block) : (b.flagRxOvf).devErr = b.devErr := rfl
@[simp] theorem Block.flagRxOvf_devClass (b : Block) : (b.flagRxOvf).devClass = b.devClass := rfl
@[simp] theorem Block.flagRxOvf_crcExp (b : Block) : (b.flagRxOvf).crcExp = b.crcExp := rfl
@[simp] theorem Block.flagRxOvf_crcGot (b : Block) : (b.flagRxOvf).crcGot = b.crcGot := rfl
@[simp] theorem Block.flagRxOvf_payLen (b : Block) : (b.flagRxOvf).payLen = b.payLen := rfl

/-! ### `clearSticky` -/

@[simp] theorem Block.clearSticky_crc (b : Block) : (b.clearSticky).crc = b.crc := rfl
@[simp] theorem Block.clearSticky_reqAddr (b : Block) : (b.clearSticky).reqAddr = b.reqAddr := rfl
@[simp] theorem Block.clearSticky_reqFc (b : Block) : (b.clearSticky).reqFc = b.reqFc := rfl
@[simp] theorem Block.clearSticky_tx (b : Block) : (b.clearSticky).tx = b.tx := rfl
@[simp] theorem Block.clearSticky_txSealed (b : Block) :
    (b.clearSticky).txSealed = b.txSealed := rfl
@[simp] theorem Block.clearSticky_rx (b : Block) : (b.clearSticky).rx = b.rx := rfl
@[simp] theorem Block.clearSticky_rxOvf (b : Block) : (b.clearSticky).rxOvf = false := rfl
@[simp] theorem Block.clearSticky_txOvf (b : Block) : (b.clearSticky).txOvf = false := rfl
@[simp] theorem Block.clearSticky_accErr (b : Block) : (b.clearSticky).accErr = false := rfl
@[simp] theorem Block.clearSticky_result (b : Block) : (b.clearSticky).result = b.result := rfl
@[simp] theorem Block.clearSticky_rspAddr (b : Block) : (b.clearSticky).rspAddr = b.rspAddr := rfl
@[simp] theorem Block.clearSticky_rspFc (b : Block) : (b.clearSticky).rspFc = b.rspFc := rfl
@[simp] theorem Block.clearSticky_devErr (b : Block) : (b.clearSticky).devErr = b.devErr := rfl
@[simp] theorem Block.clearSticky_devClass (b : Block) :
    (b.clearSticky).devClass = b.devClass := rfl
@[simp] theorem Block.clearSticky_crcExp (b : Block) : (b.clearSticky).crcExp = b.crcExp := rfl
@[simp] theorem Block.clearSticky_crcGot (b : Block) : (b.clearSticky).crcGot = b.crcGot := rfl
@[simp] theorem Block.clearSticky_payLen (b : Block) : (b.clearSticky).payLen = b.payLen := rfl

/-! ### `setOutcome` -/

@[simp] theorem Block.setOutcome_crc (b : Block) (o : FrameOutcome) :
    (b.setOutcome o).crc = b.crc := rfl
@[simp] theorem Block.setOutcome_reqAddr (b : Block) (o : FrameOutcome) :
    (b.setOutcome o).reqAddr = b.reqAddr := rfl
@[simp] theorem Block.setOutcome_reqFc (b : Block) (o : FrameOutcome) :
    (b.setOutcome o).reqFc = b.reqFc := rfl
@[simp] theorem Block.setOutcome_tx (b : Block) (o : FrameOutcome) :
    (b.setOutcome o).tx = b.tx := rfl
@[simp] theorem Block.setOutcome_txSealed (b : Block) (o : FrameOutcome) :
    (b.setOutcome o).txSealed = b.txSealed := rfl
@[simp] theorem Block.setOutcome_rx (b : Block) (o : FrameOutcome) :
    (b.setOutcome o).rx = b.rx := rfl
@[simp] theorem Block.setOutcome_rxOvf (b : Block) (o : FrameOutcome) :
    (b.setOutcome o).rxOvf = b.rxOvf := rfl
@[simp] theorem Block.setOutcome_txOvf (b : Block) (o : FrameOutcome) :
    (b.setOutcome o).txOvf = b.txOvf := rfl
@[simp] theorem Block.setOutcome_accErr (b : Block) (o : FrameOutcome) :
    (b.setOutcome o).accErr = b.accErr := rfl
@[simp] theorem Block.setOutcome_result (b : Block) (o : FrameOutcome) :
    (b.setOutcome o).result = o.result := rfl
@[simp] theorem Block.setOutcome_rspAddr (b : Block) (o : FrameOutcome) :
    (b.setOutcome o).rspAddr = o.rspAddr := rfl
@[simp] theorem Block.setOutcome_rspFc (b : Block) (o : FrameOutcome) :
    (b.setOutcome o).rspFc = o.rspFc := rfl
@[simp] theorem Block.setOutcome_devErr (b : Block) (o : FrameOutcome) :
    (b.setOutcome o).devErr = o.devErr := rfl
@[simp] theorem Block.setOutcome_devClass (b : Block) (o : FrameOutcome) :
    (b.setOutcome o).devClass = o.devClass := rfl
@[simp] theorem Block.setOutcome_crcExp (b : Block) (o : FrameOutcome) :
    (b.setOutcome o).crcExp = o.crcExp := rfl
@[simp] theorem Block.setOutcome_crcGot (b : Block) (o : FrameOutcome) :
    (b.setOutcome o).crcGot = o.crcGot := rfl
@[simp] theorem Block.setOutcome_payLen (b : Block) (o : FrameOutcome) :
    (b.setOutcome o).payLen = o.payLen := rfl

/-! ### `clearRx` -/

@[simp] theorem Block.clearRx_crc (b : Block) : (b.clearRx).crc = b.crc := rfl
@[simp] theorem Block.clearRx_reqAddr (b : Block) : (b.clearRx).reqAddr = b.reqAddr := rfl
@[simp] theorem Block.clearRx_reqFc (b : Block) : (b.clearRx).reqFc = b.reqFc := rfl
@[simp] theorem Block.clearRx_tx (b : Block) : (b.clearRx).tx = b.tx := rfl
@[simp] theorem Block.clearRx_txSealed (b : Block) : (b.clearRx).txSealed = b.txSealed := rfl
@[simp] theorem Block.clearRx_rx (b : Block) : (b.clearRx).rx = [] := rfl
@[simp] theorem Block.clearRx_rxOvf (b : Block) : (b.clearRx).rxOvf = false := rfl
@[simp] theorem Block.clearRx_txOvf (b : Block) : (b.clearRx).txOvf = b.txOvf := rfl
@[simp] theorem Block.clearRx_accErr (b : Block) : (b.clearRx).accErr = b.accErr := rfl
@[simp] theorem Block.clearRx_result (b : Block) : (b.clearRx).result = resNone := rfl
@[simp] theorem Block.clearRx_rspAddr (b : Block) : (b.clearRx).rspAddr = 0#8 := rfl
@[simp] theorem Block.clearRx_rspFc (b : Block) : (b.clearRx).rspFc = 0#8 := rfl
@[simp] theorem Block.clearRx_devErr (b : Block) : (b.clearRx).devErr = 0#8 := rfl
@[simp] theorem Block.clearRx_devClass (b : Block) : (b.clearRx).devClass = 0#8 := rfl
@[simp] theorem Block.clearRx_crcExp (b : Block) : (b.clearRx).crcExp = 0#16 := rfl
@[simp] theorem Block.clearRx_crcGot (b : Block) : (b.clearRx).crcGot = 0#16 := rfl
@[simp] theorem Block.clearRx_payLen (b : Block) : (b.clearRx).payLen = 0#8 := rfl

/-! ### `startTx` -/

@[simp] theorem Block.startTx_crc (b : Block) : (b.startTx).crc = b.crc := rfl
@[simp] theorem Block.startTx_reqAddr (b : Block) : (b.startTx).reqAddr = b.reqAddr := rfl
@[simp] theorem Block.startTx_reqFc (b : Block) : (b.startTx).reqFc = b.reqFc := rfl
@[simp] theorem Block.startTx_tx (b : Block) : (b.startTx).tx = [b.reqAddr, b.reqFc] := rfl
@[simp] theorem Block.startTx_txSealed (b : Block) : (b.startTx).txSealed = false := rfl
@[simp] theorem Block.startTx_rx (b : Block) : (b.startTx).rx = b.rx := rfl
@[simp] theorem Block.startTx_rxOvf (b : Block) : (b.startTx).rxOvf = b.rxOvf := rfl
@[simp] theorem Block.startTx_txOvf (b : Block) : (b.startTx).txOvf = false := rfl
@[simp] theorem Block.startTx_accErr (b : Block) : (b.startTx).accErr = b.accErr := rfl
@[simp] theorem Block.startTx_result (b : Block) : (b.startTx).result = b.result := rfl
@[simp] theorem Block.startTx_rspAddr (b : Block) : (b.startTx).rspAddr = b.rspAddr := rfl
@[simp] theorem Block.startTx_rspFc (b : Block) : (b.startTx).rspFc = b.rspFc := rfl
@[simp] theorem Block.startTx_devErr (b : Block) : (b.startTx).devErr = b.devErr := rfl
@[simp] theorem Block.startTx_devClass (b : Block) : (b.startTx).devClass = b.devClass := rfl
@[simp] theorem Block.startTx_crcExp (b : Block) : (b.startTx).crcExp = b.crcExp := rfl
@[simp] theorem Block.startTx_crcGot (b : Block) : (b.startTx).crcGot = b.crcGot := rfl
@[simp] theorem Block.startTx_payLen (b : Block) : (b.startTx).payLen = b.payLen := rfl

/-! ### The machine state -/

@[simp] theorem State.completeRead_blk (s : State) (v : Byte) :
    (s.completeRead v).blk = s.blk := rfl
@[simp] theorem State.completeRead_inputs (s : State) (v : Byte) :
    (s.completeRead v).inputs = s.inputs := rfl
@[simp] theorem State.completeRead_out (s : State) (v : Byte) :
    (s.completeRead v).out = ⟨true, some v⟩ := rfl
@[simp] theorem State.completeWrite_blk (s : State) (b : Block) : (s.completeWrite b).blk = b := rfl
@[simp] theorem State.completeWrite_inputs (s : State) (b : Block) :
    (s.completeWrite b).inputs = s.inputs := rfl
@[simp] theorem State.completeWrite_out (s : State) (b : Block) :
    (s.completeWrite b).out = ⟨true, none⟩ := rfl
@[simp] theorem State.noAccess_blk (s : State) : (s.noAccess).blk = s.blk := rfl
@[simp] theorem State.noAccess_inputs (s : State) : (s.noAccess).inputs = s.inputs := rfl
@[simp] theorem State.noAccess_out (s : State) : (s.noAccess).out = ⟨false, none⟩ := rfl

end Sys2Proof.Machine
end

