-- ==== Sys2Proof/Laws/Ops.lean ====
section
/-! SUPPORT. One lemma per shared operation that says everything it can do, and that every buffer
operation keeps the buffers' bounds (spec/10_state.md R21). -/

namespace Sys2Proof.Machine

/-- An append to `rx` drops the byte with RX_OVF where `rx` is full, else appends it. -/
theorem Block.pushRx_cases (b : Block) (x : Byte) :
    (b.rx.length = Config.frameMax ∧ b.pushRx x = b.flagRxOvf) ∨
    (b.rx.length ≠ Config.frameMax ∧ b.pushRx x = b.setRx (b.rx ++ [x])) := by
  unfold Block.pushRx
  by_cases h : b.rx.length = Config.frameMax
  · exact .inl ⟨h, if_pos h⟩
  · exact .inr ⟨h, if_neg h⟩

/-- An append to `tx` raises ACC_ERR where `tx` is sealed, raises TX_OVF where only the trailer's
room is left, else appends the byte. -/
theorem Block.pushTx_cases (b : Block) (x : Byte) :
    (b.txSealed = true ∧ b.pushTx x = b.flagAccErr) ∨
    (b.txSealed = false ∧ Config.frameMax - 2 ≤ b.tx.length ∧ b.pushTx x = b.flagTxOvf) ∨
    (b.txSealed = false ∧ b.tx.length < Config.frameMax - 2 ∧
      b.pushTx x = b.setTx (b.tx ++ [x])) := by
  unfold Block.pushTx
  cases hs : b.txSealed with
  | true => exact .inl ⟨rfl, rfl⟩
  | false =>
    by_cases h : Config.frameMax - 2 ≤ b.tx.length
    · exact .inr (.inl ⟨rfl, h, by simp [h]⟩)
    · exact .inr (.inr ⟨rfl, by omega, by simp [h]⟩)

/-- Sealing raises ACC_ERR where `tx` is sealed, raises TX_OVF where the trailer does not fit, else
appends the trailer. -/
theorem Block.sealTx_cases (b : Block) :
    (b.txSealed = true ∧ b.sealTx = b.flagAccErr) ∨
    (b.txSealed = false ∧ Config.frameMax - 2 < b.tx.length ∧ b.sealTx = b.flagTxOvf) ∨
    (b.txSealed = false ∧ b.tx.length ≤ Config.frameMax - 2 ∧
      b.sealTx = (b.setTx (withTrailer b.tx)).setSealed true) := by
  unfold Block.sealTx
  cases hs : b.txSealed with
  | true => exact .inl ⟨rfl, rfl⟩
  | false =>
    by_cases h : Config.frameMax - 2 < b.tx.length
    · exact .inr (.inl ⟨rfl, h, by simp [h]⟩)
    · exact .inr (.inr ⟨rfl, by omega, by simp [h]⟩)

/-! ### The register map, register by register (spec/10_state.md R25) -/

@[simp] theorem Block.portRead_status (b : Block) : b.portRead 0x001#10 = b.status := rfl
@[simp] theorem Block.portRead_crcHi (b : Block) : b.portRead 0x003#10 = hiByte b.crc := rfl
@[simp] theorem Block.portRead_crcLo (b : Block) : b.portRead 0x004#10 = loByte b.crc := rfl
@[simp] theorem Block.portRead_reqAddr (b : Block) : b.portRead 0x005#10 = b.reqAddr := rfl
@[simp] theorem Block.portRead_reqFc (b : Block) : b.portRead 0x006#10 = b.reqFc := rfl
@[simp] theorem Block.portRead_expLen (b : Block) : b.portRead 0x007#10 = replyLen b.reqFc := rfl
@[simp] theorem Block.portRead_rxLen (b : Block) : b.portRead 0x009#10 = lenByte b.rx := rfl
@[simp] theorem Block.portRead_txLen (b : Block) : b.portRead 0x00B#10 = lenByte b.tx := rfl
@[simp] theorem Block.portRead_result (b : Block) : b.portRead 0x00C#10 = b.result := rfl
@[simp] theorem Block.portRead_rspAddr (b : Block) : b.portRead 0x00D#10 = b.rspAddr := rfl
@[simp] theorem Block.portRead_rspFc (b : Block) : b.portRead 0x00E#10 = b.rspFc := rfl
@[simp] theorem Block.portRead_devErr (b : Block) : b.portRead 0x00F#10 = b.devErr := rfl
@[simp] theorem Block.portRead_devClass (b : Block) : b.portRead 0x010#10 = b.devClass := rfl
@[simp] theorem Block.portRead_crcExpHi (b : Block) : b.portRead 0x011#10 = hiByte b.crcExp := rfl
@[simp] theorem Block.portRead_crcExpLo (b : Block) : b.portRead 0x012#10 = loByte b.crcExp := rfl
@[simp] theorem Block.portRead_crcGotHi (b : Block) : b.portRead 0x013#10 = hiByte b.crcGot := rfl
@[simp] theorem Block.portRead_crcGotLo (b : Block) : b.portRead 0x014#10 = loByte b.crcGot := rfl
@[simp] theorem Block.portRead_payLen (b : Block) : b.portRead 0x015#10 = b.payLen := rfl

/-! ### The buffers keep their canonical form -/

theorem Memory.wf_iff (b : Block) :
    Memory.wf b = true ↔ b.rx.length ≤ Config.frameMax ∧ b.tx.length ≤ Config.frameMax := by
  simp [Memory.wf]

theorem Memory.wf_reset : Memory.wf State.reset.blk = true := by decide

theorem Memory.wf_clearRx {b : Block} (h : Memory.wf b = true) : Memory.wf b.clearRx = true := by
  simp [Memory.wf_iff] at *
  exact h.2

theorem Memory.wf_pushRx {b : Block} (x : Byte) (h : Memory.wf b = true) :
    Memory.wf (b.pushRx x) = true := by
  rw [Memory.wf_iff] at *
  rcases b.pushRx_cases x with ⟨_, e⟩ | ⟨hn, e⟩
  · simpa [e] using h
  · simp only [e, Block.setRx_rx, Block.setRx_tx, List.length_append, List.length_singleton]
    omega

theorem Memory.wf_startTx {b : Block} (h : Memory.wf b = true) : Memory.wf b.startTx = true := by
  simp [Memory.wf_iff, Config.frameMax] at *
  exact h.1

theorem Memory.wf_pushTx {b : Block} (x : Byte) (h : Memory.wf b = true) :
    Memory.wf (b.pushTx x) = true := by
  rw [Memory.wf_iff] at *
  rcases b.pushTx_cases x with ⟨_, e⟩ | ⟨_, _, e⟩ | ⟨_, hn, e⟩
  · simpa [e] using h
  · simpa [e] using h
  · simp only [e, Block.setTx_rx, Block.setTx_tx, List.length_append, List.length_singleton]
    omega

theorem Memory.wf_sealTx {b : Block} (h : Memory.wf b = true) : Memory.wf b.sealTx = true := by
  rw [Memory.wf_iff] at *
  rcases b.sealTx_cases with ⟨_, e⟩ | ⟨_, _, e⟩ | ⟨_, hn, e⟩
  · simpa [e] using h
  · simpa [e] using h
  · have hf : Config.frameMax = 250 := rfl
    simp only [e, Block.setSealed_rx, Block.setTx_rx, Block.setSealed_tx, Block.setTx_tx,
      withTrailer_length]
    omega

end Sys2Proof.Machine
end

