-- ==== Sys2Proof/Laws/PerInstr.lean ====
section
/-! SUPPORT. The encoding round trip, one lemma per instruction (spec/30_encoding.md R80, R87). -/

namespace Sys2Proof.Laws

/-- Decoding the word of a well-formed instruction gives the instruction back. -/
def RoundTrip.Statement (i : Instr) : Prop := i.wf = true → decode (encode i) = i

theorem RoundTrip.nop : RoundTrip.Statement .nop := fun _ => by decide

theorem RoundTrip.crcInit : RoundTrip.Statement .crcInit := fun _ => by decide

theorem RoundTrip.rxClear : RoundTrip.Statement .rxClear := fun _ => by decide

theorem RoundTrip.txStart : RoundTrip.Statement .txStart := fun _ => by decide

theorem RoundTrip.txSeal : RoundTrip.Statement .txSeal := fun _ => by decide

theorem RoundTrip.decode : RoundTrip.Statement .decode := fun _ => by decide

theorem RoundTrip.check : RoundTrip.Statement .check := fun _ => by decide

theorem RoundTrip.errClear : RoundTrip.Statement .errClear := fun _ => by decide

theorem RoundTrip.softReset : RoundTrip.Statement .softReset := fun _ => by decide

theorem RoundTrip.wrCrcIn (b : Byte) : RoundTrip.Statement (.wrCrcIn b) := fun _ =>
  decode_accessWord true _ b

theorem RoundTrip.wrReqAddr (a : Byte) : RoundTrip.Statement (.wrReqAddr a) := fun _ =>
  decode_accessWord true _ a

theorem RoundTrip.wrReqFc (f : Byte) : RoundTrip.Statement (.wrReqFc f) := fun _ =>
  decode_accessWord true _ f

theorem RoundTrip.wrRxIn (b : Byte) : RoundTrip.Statement (.wrRxIn b) := fun _ =>
  decode_accessWord true _ b

theorem RoundTrip.wrTxIn (b : Byte) : RoundTrip.Statement (.wrTxIn b) := fun _ =>
  decode_accessWord true _ b

theorem RoundTrip.cmdRsvd (op : Byte) : RoundTrip.Statement (.cmdRsvd op) := fun h =>
  (decode_encodeCommand op).trans (decodeCommand_reserved op (by simpa [Instr.wf] using h))

theorem RoundTrip.wrIgnored (a : PortAddr) (d : Byte) : RoundTrip.Statement (.wrIgnored a d) :=
  fun h =>
  (decode_accessWord true a d).trans (decodeWrite_ignored a d (by simpa [Instr.wf] using h))

theorem RoundTrip.rdStatus : RoundTrip.Statement .rdStatus := fun _ => by decide

theorem RoundTrip.rdCrcHi : RoundTrip.Statement .rdCrcHi := fun _ => by decide

theorem RoundTrip.rdCrcLo : RoundTrip.Statement .rdCrcLo := fun _ => by decide

theorem RoundTrip.rdReqAddr : RoundTrip.Statement .rdReqAddr := fun _ => by decide

theorem RoundTrip.rdReqFc : RoundTrip.Statement .rdReqFc := fun _ => by decide

theorem RoundTrip.rdExpLen : RoundTrip.Statement .rdExpLen := fun _ => by decide

theorem RoundTrip.rdRxLen : RoundTrip.Statement .rdRxLen := fun _ => by decide

theorem RoundTrip.rdTxLen : RoundTrip.Statement .rdTxLen := fun _ => by decide

theorem RoundTrip.rdResult : RoundTrip.Statement .rdResult := fun _ => by decide

theorem RoundTrip.rdRspAddr : RoundTrip.Statement .rdRspAddr := fun _ => by decide

theorem RoundTrip.rdRspFc : RoundTrip.Statement .rdRspFc := fun _ => by decide

theorem RoundTrip.rdDevErr : RoundTrip.Statement .rdDevErr := fun _ => by decide

theorem RoundTrip.rdDevClass : RoundTrip.Statement .rdDevClass := fun _ => by decide

theorem RoundTrip.rdCrcExpHi : RoundTrip.Statement .rdCrcExpHi := fun _ => by decide

theorem RoundTrip.rdCrcExpLo : RoundTrip.Statement .rdCrcExpLo := fun _ => by decide

theorem RoundTrip.rdCrcGotHi : RoundTrip.Statement .rdCrcGotHi := fun _ => by decide

theorem RoundTrip.rdCrcGotLo : RoundTrip.Statement .rdCrcGotLo := fun _ => by decide

theorem RoundTrip.rdPayLen : RoundTrip.Statement .rdPayLen := fun _ => by decide

theorem RoundTrip.rdRxWin (i : Byte) : RoundTrip.Statement (.rdRxWin i) := fun _ =>
  (decode_encodeRead _).trans (decodeRead_rxWin i)

theorem RoundTrip.rdTxWin (i : Byte) : RoundTrip.Statement (.rdTxWin i) := fun _ =>
  (decode_encodeRead _).trans (decodeRead_txWin i)

theorem RoundTrip.rdZero (a : PortAddr) : RoundTrip.Statement (.rdZero a) := fun h =>
  (decode_encodeRead a).trans (decodeRead_zero a (by simpa [Instr.wf] using h))

end Sys2Proof.Laws
end

