-- ==== Sys2Proof/Laws/Step.lean ====
section
/-! SUPPORT. What one access and one step can do, said once. -/

namespace Sys2Proof.Machine

/-- What an access does to the state record, as one function: the reads and NOP leave it, every
other access applies its operation. -/
def blockAfter : Instr → Block → Block
  | .nop, b => b
  | .crcInit, b => b.setCrc Config.crcInit
  | .rxClear, b => b.clearRx
  | .txStart, b => b.startTx
  | .txSeal, b => b.sealTx
  | .decode, b => b.setOutcome (decodeFrame b.rx)
  | .check, b => b.setOutcome (validate (decodeFrame b.rx) b.reqAddr b.reqFc)
  | .errClear, b => b.clearSticky
  | .softReset, _ => Block.reset
  | .wrCrcIn x, b => b.setCrc (crcStep b.crc x)
  | .wrReqAddr x, b => b.setReqAddr x
  | .wrReqFc x, b => b.setReqFc x
  | .wrRxIn x, b => b.pushRx x
  | .wrTxIn x, b => b.pushTx x
  | .cmdRsvd _, b => b.flagAccErr
  | .wrIgnored _ _, b => b.flagAccErr
  | .rdStatus, b | .rdCrcHi, b | .rdCrcLo, b | .rdReqAddr, b | .rdReqFc, b | .rdExpLen, b
  | .rdRxLen, b | .rdTxLen, b | .rdResult, b | .rdRspAddr, b | .rdRspFc, b | .rdDevErr, b
  | .rdDevClass, b | .rdCrcExpHi, b | .rdCrcExpLo, b | .rdCrcGotHi, b | .rdCrcGotLo, b
  | .rdPayLen, b | .rdRxWin _, b | .rdTxWin _, b | .rdZero _, b => b

/-- The next state an access gives, where it gives one: its record is `blockAfter`, the waiting
inputs are as before, and the access has completed. -/
theorem exec_inversion {i : Instr} {s t : State} (h : exec i s = .next t) :
    t.blk = blockAfter i s.blk ∧ t.inputs = s.inputs ∧ t.out.ready = true := by
  cases i <;> cases h <;> exact ⟨rfl, rfl, rfl⟩

/-- The cases of a step, by the next input. -/
theorem step_cases {s t : State} (h : step s = .next t) :
    (s.inputs = [] ∧ t = s.noAccess) ∨
    (∃ p rest, s.inputs = ⟨true, p⟩ :: rest ∧
      t = State.noAccess { s with blk := Block.reset, inputs := rest }) ∨
    (∃ rest, s.inputs = ⟨false, none⟩ :: rest ∧ t = State.noAccess { s with inputs := rest }) ∨
    (∃ w rest, s.inputs = ⟨false, some w⟩ :: rest ∧
      exec (decode w) { s with inputs := rest } = .next t) := by
  unfold step at h
  split at h
  · cases h; exact .inl ⟨‹_›, rfl⟩
  · cases h; exact .inr (.inl ⟨_, _, ‹_›, rfl⟩)
  · cases h; exact .inr (.inr (.inl ⟨_, ‹_›, rfl⟩))
  · exact .inr (.inr (.inr ⟨_, _, ‹_›, h⟩))

/-- The record after a step: as before, at its reset values, or what an access makes of it. -/
theorem step_block {s t : State} (h : step s = .next t) :
    t.blk = s.blk ∨ t.blk = Block.reset ∨ ∃ i, t.blk = blockAfter i s.blk := by
  rcases step_cases h with ⟨_, rfl⟩ | ⟨_, _, _, rfl⟩ | ⟨_, _, rfl⟩ | ⟨w, _, _, he⟩
  · exact .inl rfl
  · exact .inr (.inl rfl)
  · exact .inl rfl
  · exact .inr (.inr ⟨decode w, (exec_inversion he).1⟩)

/-- Presenting a word makes it the very next access. -/
theorem step_present (s : State) (w : AccessWord) : step (s.present w) = exec (decode w) s := rfl

/-- A property of the record that reset has and every access keeps is kept by every step. -/
theorem step_keeps {P : Block → Prop} (hr : P Block.reset)
    (hk : ∀ i b, P b → P (blockAfter i b)) {s t : State} (hs : P s.blk) (h : step s = .next t) :
    P t.blk := by
  rcases step_block h with e | e | ⟨i, e⟩ <;> rw [e]
  · exact hs
  · exact hr
  · exact hk i _ hs

end Sys2Proof.Machine
end

