-- ==== Sys2Proof/Laws/Run.lean ====
section
/-! SUPPORT. How runs compose (spec/20_memory.md R72). -/

namespace Sys2Proof.Machine

/-- A run whose first step answers `t` goes on from `t`, on any machine. -/
theorem run_next (M : Host.Core) {s t : M.State} (n : Nat) (h : M.step s = .next t) :
    M.run (n + 1) s = M.run n t := by
  rw [Host.Core.run, h]

/-- A run of the block whose first step answers `t` goes on from `t`. -/
theorem core_run_next {s t : State} (n : Nat) (h : step s = .next t) :
    Host.Core.run Sys2Proof.core (n + 1) s = Host.Core.run Sys2Proof.core n t :=
  run_next Sys2Proof.core n h

/-- Accesses whose first answers `t` go on from `t`. -/
theorem runAccesses_cons {i : Instr} {s t : State} (is : List Instr) (h : exec i s = .next t) :
    runAccesses (i :: is) s = runAccesses is t := by
  simp only [runAccesses, h]

/-- A list of accesses after another runs from the state the other leaves. -/
theorem runAccesses_append {xs : List Instr} {s t : State} (ys : List Instr)
    (h : runAccesses xs s = .next t) : runAccesses (xs ++ ys) s = runAccesses ys t := by
  induction xs generalizing s with
  | nil => cases h; rfl
  | cons i is ih =>
    simp only [runAccesses, List.cons_append] at h ⊢
    split at h
    · exact ih h
    · cases h
    · cases h

/-! ### Pushing byte sequences -/

/-- Bytes pushed into `rx` are appended in order until it is full; RX_OVF goes up where some are
dropped, and nothing else changes (spec/42_frame_rx.md R151). -/
theorem run_pushRx_full (bs : List Byte) (s : State) (h : s.blk.rx.length ≤ 250) :
    ∃ t, runAccesses (bs.map .wrRxIn) s = .next t ∧
      t.blk = { s.blk with
        rx := s.blk.rx ++ bs.take (250 - s.blk.rx.length),
        rxOvf := s.blk.rxOvf || decide (250 < s.blk.rx.length + bs.length) } := by
  have fm : Config.frameMax = 250 := rfl
  induction bs generalizing s with
  | nil => exact ⟨s, rfl, by simp [Nat.not_lt.mpr h]⟩
  | cons b bs ih =>
    rcases s.blk.pushRx_cases b with ⟨hf, e⟩ | ⟨hn, e⟩
    · obtain ⟨u, hu, hb⟩ := ih (s.completeWrite (s.blk.pushRx b))
        (by rw [State.completeWrite_blk, e]; exact h)
      refine ⟨u, hu, ?_⟩
      rw [hb, State.completeWrite_blk, e]
      simp [Block.flagRxOvf, hf, fm]
    · obtain ⟨u, hu, hb⟩ := ih (s.completeWrite (s.blk.pushRx b))
        (by rw [State.completeWrite_blk, e, Block.setRx_rx, List.length_append,
              List.length_singleton]; omega)
      refine ⟨u, hu, ?_⟩
      have e1 : 250 - s.blk.rx.length = (250 - (s.blk.rx.length + 1)) + 1 := by omega
      have e2 : s.blk.rx.length + 1 + bs.length = s.blk.rx.length + (bs.length + 1) := by omega
      rw [hb, State.completeWrite_blk, e]
      simp [Block.setRx, e1, e2]

/-- Bytes pushed into an `rx` that has room for them are appended in order, and nothing else
changes (spec/42_frame_rx.md R151). -/
theorem run_pushRx (bs : List Byte) (s : State)
    (h : s.blk.rx.length + bs.length ≤ Config.frameMax) :
    ∃ t, runAccesses (bs.map .wrRxIn) s = .next t ∧ t.blk = s.blk.setRx (s.blk.rx ++ bs) := by
  induction bs generalizing s with
  | nil => exact ⟨s, rfl, by simp [Block.setRx]⟩
  | cons b bs ih =>
    rw [List.length_cons] at h
    rcases s.blk.pushRx_cases b with ⟨hf, _⟩ | ⟨_, e⟩
    · omega
    · obtain ⟨u, hu, hb⟩ := ih (s.completeWrite (s.blk.pushRx b)) (by
        rw [State.completeWrite_blk, e, Block.setRx_rx, List.length_append, List.length_singleton]
        omega)
      refine ⟨u, hu, ?_⟩
      rw [hb, State.completeWrite_blk, e]
      simp [Block.setRx]

/-- Bytes pushed into an unsealed `tx` with room left are appended in order until the trailer's
room is reached; TX_OVF goes up where some are dropped, and nothing else changes
(spec/41_frame_tx.md R131). -/
theorem run_pushTx (bs : List Byte) (s : State) (hs : s.blk.txSealed = false)
    (h : s.blk.tx.length ≤ 248) :
    ∃ t, runAccesses (bs.map .wrTxIn) s = .next t ∧
      t.blk = { s.blk with
        tx := s.blk.tx ++ bs.take (248 - s.blk.tx.length),
        txOvf := s.blk.txOvf || decide (248 < s.blk.tx.length + bs.length) } := by
  have fm : Config.frameMax - 2 = 248 := rfl
  induction bs generalizing s with
  | nil => exact ⟨s, rfl, by simp [Nat.not_lt.mpr h]⟩
  | cons b bs ih =>
    rcases s.blk.pushTx_cases b with ⟨hf, _⟩ | ⟨_, hn, e⟩ | ⟨_, hn, e⟩
    · rw [hs] at hf; cases hf
    · obtain ⟨u, hu, hb⟩ := ih (s.completeWrite (s.blk.pushTx b))
        (by rw [State.completeWrite_blk, e]; exact hs)
        (by rw [State.completeWrite_blk, e]; exact h)
      refine ⟨u, hu, ?_⟩
      have hl : s.blk.tx.length = 248 := by omega
      rw [hb, State.completeWrite_blk, e]
      simp [Block.flagTxOvf, hl]
    · obtain ⟨u, hu, hb⟩ := ih (s.completeWrite (s.blk.pushTx b))
        (by rw [State.completeWrite_blk, e]; exact hs)
        (by rw [State.completeWrite_blk, e, Block.setTx_tx, List.length_append,
              List.length_singleton]; omega)
      refine ⟨u, hu, ?_⟩
      have e1 : 248 - s.blk.tx.length = (248 - (s.blk.tx.length + 1)) + 1 := by omega
      have e2 : s.blk.tx.length + 1 + bs.length = s.blk.tx.length + (bs.length + 1) := by omega
      rw [hb, State.completeWrite_blk, e]
      simp [Block.setTx, e1, e2]

end Sys2Proof.Machine
end

