-- ==== Sys2Proof/Tests/Slice0.lean ====
section
/-! SUPPORT. The model's own tests: the well-formedness smoke, words written out from the spec's
encodings, one step per instruction on the spec's examples and vectors, and for every statement
that has hypotheses a state and operands that meet them. Expected values come from the rules'
examples and from spec/95_test_vectors.md, as each comment says. -/

namespace Sys2Proof.Machine.Tests

set_option Elab.async false

/-! ### Well-formedness: an ill-formed term for each check -/

theorem test_wf_refuses_an_assigned_opcode : (Instr.cmdRsvd 0x08#8).wf = false := by decide
theorem test_wf_refuses_a_writable_address : (Instr.wrIgnored 0x00A#10 0#8).wf = false := by decide
theorem test_wf_refuses_a_readable_address : (Instr.rdZero 0x015#10).wf = false := by decide
theorem test_wf_refuses_a_window_address : (Instr.rdZero 0x2FF#10).wf = false := by decide

/-! ### Words written out bit by bit: RW, ADDR and DATA (spec/30_encoding.md R80, R81, R84, R85) -/

theorem test_decode_commands :
    decode 0b1_0000000000_00000000#19 = .nop ∧ decode 0b1_0000000000_00000001#19 = .crcInit ∧
    decode 0b1_0000000000_00000010#19 = .rxClear ∧ decode 0b1_0000000000_00000011#19 = .txStart ∧
    decode 0b1_0000000000_00000100#19 = .txSeal ∧ decode 0b1_0000000000_00000101#19 = .decode ∧
    decode 0b1_0000000000_00000110#19 = .check ∧ decode 0b1_0000000000_00000111#19 = .errClear ∧
    decode 0b1_0000000000_00001000#19 = .softReset ∧
    decode 0b1_0000000000_00001001#19 = .cmdRsvd 9#8 := by decide

theorem test_decode_writes :
    decode 0b1_0000000010_00110001#19 = .wrCrcIn 0x31#8 ∧
    decode 0b1_0000000101_11111010#19 = .wrReqAddr 250#8 ∧
    decode 0b1_0000000110_00011110#19 = .wrReqFc 30#8 ∧
    decode 0b1_0000001000_10000000#19 = .wrRxIn 0x80#8 ∧
    decode 0b1_0000001010_01000000#19 = .wrTxIn 0x40#8 ∧
    decode 0b1_0000000001_11111111#19 = .wrIgnored 1#10 0xFF#8 ∧
    decode 0b1_0100000000_01010101#19 = .wrIgnored 0x100#10 0x55#8 := by decide

theorem test_decode_reads :
    decode 0b0_0000000001_00000000#19 = .rdStatus ∧ decode 0b0_0000000011_00000000#19 = .rdCrcHi ∧
    decode 0b0_0000000100_00000000#19 = .rdCrcLo ∧ decode 0b0_0000000101_00000000#19 = .rdReqAddr ∧
    decode 0b0_0000000110_00000000#19 = .rdReqFc ∧ decode 0b0_0000000111_00000000#19 = .rdExpLen ∧
    decode 0b0_0000001001_00000000#19 = .rdRxLen ∧ decode 0b0_0000001011_00000000#19 = .rdTxLen ∧
    decode 0b0_0100000011_00000000#19 = .rdRxWin 3#8 ∧
    decode 0b0_1011111111_00000000#19 = .rdTxWin 255#8 ∧
    decode 0b0_1100000000_00000000#19 = .rdZero 0x300#10 ∧
    decode 0b0_0000000000_00000000#19 = .rdZero 0#10 := by decide

theorem test_decode_result_reads :
    decode 0b0_0000001100_11111111#19 = .rdResult ∧
    decode 0b0_0000001101_00000000#19 = .rdRspAddr ∧
    decode 0b0_0000001110_00000000#19 = .rdRspFc ∧ decode 0b0_0000001111_00000000#19 = .rdDevErr ∧
    decode 0b0_0000010000_00000000#19 = .rdDevClass ∧
    decode 0b0_0000010001_00000000#19 = .rdCrcExpHi ∧
    decode 0b0_0000010010_00000000#19 = .rdCrcExpLo ∧
    decode 0b0_0000010011_00000000#19 = .rdCrcGotHi ∧
    decode 0b0_0000010100_00000000#19 = .rdCrcGotLo ∧
    decode 0b0_0000010101_00000000#19 = .rdPayLen := by decide

theorem test_decode_table_word : decodeTableWord 24 0x405FA = some (.wrReqAddr 250#8) := by decide
theorem test_decode_table_word_refuses : decodeTableWord 24 0x80000 = none := by decide

/-! ### Helpers for one-step tests -/

/-- The state with the record `b`. -/
def withBlk (b : Block) : State := { State.reset with blk := b }

/-- A field of the record after an access. -/
def after {α : Type} (f : Block → α) : Host.Outcome State Fault Refusal → Option α
  | .next t => some (f t.blk)
  | .fault _ => none
  | .refused _ => none

/-- The byte a read returned. -/
def read : Host.Outcome State Fault Refusal → Option Byte
  | .next t => t.out.rdata
  | .fault _ => none
  | .refused _ => none

/-- The reply of spec/42_frame_rx.md R160. -/
def okFrame : List Byte :=
  [0x01#8, 0x1E#8, 0x3F#8, 0x80#8, 0x00#8, 0x00#8, 0x34#8, 0xA4#8]

/-- The error reply of spec/42_frame_rx.md R172. -/
def errorFrame : List Byte := [0x01#8, 0x9F#8, 0x03#8, 0xF1#8, 0x09#8]

/-- The record with `rx` holding the bytes. -/
def withRx (bs : List Byte) : Block := { Block.reset with rx := bs }

/-! ### The CRC (spec/40_crc.md examples; spec/95_test_vectors.md §2.1) -/

-- V-CRC-2, V-CRC-3, V-CRC-8
theorem test_crc16_vectors :
    crc16 [0x00#8] = 0x40BF#16 ∧ crc16 [0xFF#8] = 0x00FF#16 ∧
    crc16 [0x01#8, 0x02#8, 0x03#8, 0x04#8] = 0x2BA1#16 := by decide +kernel

-- V-CRC-6: the eight iterations
theorem test_crc_iterations : crcShift 0x7FE7#16 = 0x9FF2#16 ∧ crcShift 0x9FF2#16 = 0x4FF9#16 ∧
    crcShift 0x87FD#16 = 0xE3FF#16 ∧ crcShift 0x68FF#16 = 0x947E#16 := by decide +kernel

-- V-CRC-12
theorem test_crcInit :
    after (·.crc) (exec .crcInit (withBlk { Block.reset with crc := 0x1234#16 })) =
      some 0xFFFF#16 := by decide

-- V-CRC-7, V-CRC-14
theorem test_wrCrcIn :
    after (·.crc) (exec (.wrCrcIn 0x32#8) (withBlk { Block.reset with crc := 0x947E#16 })) =
      some 0xF595#16 ∧
    after (·.crc) (exec (.wrCrcIn 0x00#8) (withBlk { Block.reset with crc := 0x4B37#16 })) =
      some 0xD60A#16 := by decide +kernel

-- the examples of R105 and R106
theorem test_crc_reads :
    read (exec .rdCrcHi (withBlk { Block.reset with crc := 0x4B37#16 })) = some 0x4B#8 ∧
    read (exec .rdCrcLo (withBlk { Block.reset with crc := 0x4B37#16 })) = some 0x37#8 := by
  decide +kernel

/-! ### The request side (spec/41_frame_tx.md examples; spec/95_test_vectors.md §2.2) -/

theorem test_request_registers :
    after (·.reqAddr) (exec (.wrReqAddr 250#8) State.reset) = some 250#8 ∧
    after (·.reqFc) (exec (.wrReqFc 0x49#8) State.reset) = some 0x49#8 ∧
    read (exec .rdReqAddr State.reset) = some 0#8 ∧
    read (exec .rdReqFc (withBlk { Block.reset with reqFc := 0x49#8 })) = some 0x49#8 ∧
    read (exec .rdExpLen (withBlk { Block.reset with reqFc := 48#8 })) = some 10#8 := by
  decide +kernel

-- V-TX-13
theorem test_replyLen_unlisted :
    replyLen 0x1D#8 = 0#8 ∧ replyLen 0x22#8 = 0#8 ∧ replyLen 0x9E#8 = 0#8 := by decide +kernel

-- V-TX-1
theorem test_txStart :
    after (·.tx) (exec .txStart
      (withBlk { Block.reset with reqAddr := 1#8, reqFc := 30#8, tx := [9#8] })) =
      some [0x01#8, 0x1E#8] := by decide +kernel

-- the example of R131, and V-TX-3
theorem test_wrTxIn :
    after (·.tx) (exec (.wrTxIn 0x40#8)
      (withBlk { Block.reset with tx := [0x01#8, 0x1E#8] })) =
        some [0x01#8, 0x1E#8, 0x40#8] ∧
    after (fun b => (b.tx.length, b.accErr, b.txOvf)) (exec (.wrTxIn 0x11#8)
      (withBlk { Block.reset with tx := [0x01#8, 0x1E#8], txSealed := true })) =
        some (2, true, false) := by decide +kernel

-- the example of R132, and V-TX-5
theorem test_txSeal :
    after (fun b => (b.tx, b.txSealed)) (exec .txSeal
      (withBlk { Block.reset with tx := [0x01#8, 0x1E#8, 0x40#8] })) =
        some ([0x01#8, 0x1E#8, 0x40#8, 0x50#8, 0x28#8], true) ∧
    after (·.tx) (exec .txSeal State.reset) = some [0xFF#8, 0xFF#8] := by decide +kernel

-- the examples of R133 and R134
theorem test_tx_reads :
    read (exec .rdTxLen (withBlk { Block.reset with tx := [1#8, 0x1E#8, 0x40#8] })) = some 3#8 ∧
    read (exec (.rdTxWin 1#8) (withBlk { Block.reset with tx := [1#8, 0x1E#8] })) = some 0x1E#8 ∧
    read (exec (.rdTxWin 2#8) (withBlk { Block.reset with tx := [1#8, 0x1E#8] })) = some 0#8 := by
  decide +kernel

-- V-TX-15, V-TX-16
theorem test_encodeFrame :
    encodeFrame 0x2A#8 0x21#8 [0x05#8, 0x01#8] =
      [0x2A#8, 0x21#8, 0x05#8, 0x01#8, 0xA6#8, 0x9A#8] ∧
    encodeFrame 250#8 48#8 [0x00#8] = [0xFA#8, 0x30#8, 0x00#8, 0xF1#8, 0x45#8] := by
  decide +kernel

/-! ### The receive side (spec/42_frame_rx.md examples; spec/95_test_vectors.md §2.3, §2.4) -/

-- the example of R150
theorem test_rxClear :
    after (fun b => (b.rx, b.result, b.rxOvf)) (exec .rxClear
      (withBlk { Block.reset with rx := [1#8, 0x1E#8], result := resTooShort, rxOvf := true })) =
      some ([], 0x00#8, false) := by decide +kernel

-- V-RX-1, and V-RX-3's dropped byte
theorem test_wrRxIn :
    after (·.rx) (exec (.wrRxIn 0x01#8) State.reset) = some [0x01#8] ∧
    after (fun b => (b.rx.length, b.rxOvf))
      (exec (.wrRxIn 0x55#8) (withBlk (withRx (List.replicate 250 0#8)))) =
        some (250, true) := by decide +kernel

-- the examples of R152 and R153
theorem test_rx_reads :
    read (exec .rdRxLen (withBlk (withRx okFrame))) = some 8#8 ∧
    read (exec (.rdRxWin 2#8) (withBlk (withRx okFrame))) = some 0x3F#8 ∧
    read (exec (.rdRxWin 8#8) (withBlk (withRx okFrame))) = some 0x00#8 := by decide +kernel

-- V-DEC-9, V-DEC-10
theorem test_decode :
    after (·.outcome) (exec .decode (withBlk (withRx okFrame))) =
      some ⟨0x01#8, 0x01#8, 0x1E#8, 0#8, 0#8, 0x34A4#16, 0x34A4#16, 4#8⟩ ∧
    after (·.outcome) (exec .decode (withBlk (withRx (okFrame.set 7 0xA5#8)))) =
      some ⟨0x04#8, 0x01#8, 0x1E#8, 0#8, 0#8, 0x34A4#16, 0x34A5#16, 0#8⟩ := by decide +kernel

-- V-DEC-2, V-DEC-6, V-DEC-7, V-DEC-8
theorem test_decode_errors :
    (decodeFrame [0x01#8, 0x9F#8, 0x03#8, 0xF1#8]).result = 0x02#8 ∧
    decodeFrame [0x01#8, 0x80#8, 0x20#8, 0#8, 0#8] =
      ⟨0x03#8, 0x01#8, 0x80#8, 0x20#8, 0x05#8, 0#16, 0#16, 0#8⟩ ∧
    (decodeFrame [0x01#8, 0x9F#8, 0x00#8, 0#8, 0#8]).devClass = 0x06#8 ∧
    (decodeFrame errorFrame).devClass = 0x03#8 := by decide +kernel

-- V-CHK-3, V-CHK-4
theorem test_check :
    after (·.result) (exec .check (withBlk { withRx [0x05#8, 0x1E#8, 0x3F#8, 0x80#8, 0x00#8,
      0x00#8, 0xB0#8, 0xA5#8] with reqAddr := 1#8, reqFc := 30#8 })) = some 0x06#8 ∧
    after (·.result) (exec .check (withBlk { withRx [0x05#8, 0x1E#8, 0x3F#8, 0x80#8, 0x00#8,
      0x00#8, 0xB0#8, 0xA5#8] with reqAddr := 250#8, reqFc := 30#8 })) = some 0x01#8 := by
  decide +kernel

-- V-CHK-6 (both differ), V-CHK-7 (the codec error wins)
theorem test_check_priority :
    after (·.result) (exec .check (withBlk { withRx [0x03#8, 0x20#8, 0x3F#8, 0x80#8, 0x00#8,
      0x00#8, 0x13#8, 0x8C#8] with reqAddr := 1#8, reqFc := 30#8 })) = some 0x05#8 ∧
    after (·.result) (exec .check (withBlk { withRx errorFrame with
      reqAddr := 2#8, reqFc := 30#8 })) = some 0x03#8 := by decide +kernel

-- the examples of R170 to R179
theorem test_result_reads :
    let s := withBlk { Block.reset with
      result := 0x04#8, rspAddr := 0x05#8, rspFc := 0x9F#8, devErr := 0x03#8, devClass := 0x02#8,
      crcExp := 0x34A4#16, crcGot := 0x35A5#16, payLen := 6#8 }
    read (exec .rdResult s) = some 0x04#8 ∧ read (exec .rdRspAddr s) = some 0x05#8 ∧
    read (exec .rdRspFc s) = some 0x9F#8 ∧ read (exec .rdDevErr s) = some 0x03#8 ∧
    read (exec .rdDevClass s) = some 0x02#8 ∧ read (exec .rdCrcExpHi s) = some 0x34#8 ∧
    read (exec .rdCrcExpLo s) = some 0xA4#8 ∧ read (exec .rdCrcGotHi s) = some 0x35#8 ∧
    read (exec .rdCrcGotLo s) = some 0xA5#8 ∧ read (exec .rdPayLen s) = some 6#8 := by
  decide +kernel

/-! ### Control (spec/43_control.md examples; spec/95_test_vectors.md §2.5, §2.7) -/

-- V-CTL-1, V-CTL-2
theorem test_nop_errClear :
    after (·.accErr) (exec .nop State.reset) = some false ∧
    after (·.status) (exec .errClear (withBlk { Block.reset with
      accErr := true, txOvf := true, rxOvf := true })) = some 0x00#8 := by decide +kernel

-- V-CTL-3
theorem test_softReset :
    after (fun b => (b.status, b.crc, b.reqFc)) (exec .softReset (withBlk { withRx okFrame with
      crc := 0x1234#16, reqFc := 30#8, accErr := true })) =
      some (0x00#8, 0xFFFF#16, 0x00#8) := by decide +kernel

-- V-CTL-4, V-CTL-6, V-CTL-7
theorem test_reserved_writes :
    after (·.status) (exec (.cmdRsvd 0x09#8) State.reset) = some 0x04#8 ∧
    after (·.status) (exec (.wrIgnored 0x001#10 0xFF#8) State.reset) = some 0x04#8 ∧
    after (·.rx) (exec (.wrIgnored 0x100#10 0x55#8) State.reset) = some [] := by decide +kernel

-- the example of R205, and the end of P4's sealed, overflowed state
theorem test_rdStatus :
    read (exec .rdStatus (withBlk { withRx okFrame with reqFc := 30#8 })) = some 0x10#8 ∧
    read (exec .rdStatus (withBlk { withRx (List.replicate 250 0#8) with
      txSealed := true, rxOvf := true })) = some 0x29#8 := by decide +kernel

-- V-CTL-9
theorem test_rdZero : read (exec (.rdZero 0x3FF#10) (withBlk { Block.reset with
    accErr := true, crc := 0x1234#16 })) = some 0x00#8 := by decide

-- P2: the word after reset is the next access, and CHECK's step
theorem test_withFetchWord :
    after (·.result) (step ((withBlk { withRx okFrame with
      reqAddr := 1#8, reqFc := 30#8 }).withFetchWord 24 0x40006)) = some 0x01#8 := by
  decide +kernel

-- V-RST-1: reset wins over a presented access, which does not complete
theorem test_reset_input :
    step { withBlk (withRx okFrame) with inputs := [⟨true, some 0x40801#19⟩] } =
      .next State.reset := rfl

/-! ### States and operands that meet the statements' hypotheses -/

/-- A sealed request, a full receive buffer with RX_OVF, and a checked result. -/
def busyBlk : Block :=
  { Block.reset with
    tx := [0x01#8, 0x1E#8, 0x40#8, 0x50#8, 0x28#8], txSealed := true, reqAddr := 1#8,
    reqFc := 30#8, rx := List.replicate 250 0#8, rxOvf := true, accErr := true,
    result := resBadCrc, crcExp := 0xFC3A#16 }

/-- An overflowed, unsealed request. -/
def fullTxBlk : Block := { Block.reset with tx := List.replicate 248 0#8, txOvf := true }

/-- An unsealed request of `n` bytes. -/
def txBlk (n : Nat) : Block := { Block.reset with tx := List.replicate n 0#8 }

theorem witness_DecodeOfEncodeIsTheInstruction :
    (Instr.cmdRsvd 0x09#8).wf ∧ (Instr.cmdRsvd 0xFF#8).wf ∧ (Instr.wrIgnored 0x001#10 5#8).wf ∧
    (Instr.wrIgnored 0x3FF#10 5#8).wf ∧ (Instr.rdZero 0x016#10).wf ∧ (Instr.rdZero 0x0FF#10).wf ∧
    (Instr.rdZero 0x300#10).wf ∧ (Instr.rdRxWin 255#8).wf ∧ Instr.check.wf := by decide

theorem witness_OpcodeTableDecodesAsTheProcedure :
    (opcodeTable.filter fun q => 0x40005#19 &&& q.mask == q.pat).map (·.priority) = [0, 2, 3] := by
  decide +kernel

theorem witness_WrittenOutWordsDecode : 2 ^ 19 ≤ 0x80000 := by decide

theorem witness_StepRunsThePresentedAccess :
    (State.reset.present 0x40005#19).inputs = [⟨false, some 0x40005#19⟩] ∧ 0x7FFFF < 2 ^ 19 := by
  decide

theorem witness_ResetInputGivesTheResetRecord :
    ({ withBlk busyBlk with inputs := [⟨true, some 0x40A11#19⟩, ⟨true, none⟩] } : State).inputs =
      ⟨true, some 0x40A11#19⟩ :: [⟨true, none⟩] := rfl

theorem witness_IdleStepKeepsTheRecord :
    (withBlk busyBlk).inputs = [] ∧
    ({ withBlk busyBlk with inputs := [⟨false, none⟩] } : State).inputs = ⟨false, none⟩ :: [] :=
  ⟨rfl, rfl⟩

theorem bufferBounds_busyBlk : BufferBounds busyBlk :=
  ⟨by decide +kernel, by decide, fun h => by cases h⟩

theorem bufferBounds_fullTxBlk : BufferBounds fullTxBlk :=
  ⟨by decide, by decide +kernel, fun _ => by decide +kernel⟩

/-- A step on the busy record: a payload byte to the sealed frame. -/
def busyState : State := (withBlk busyBlk).present 0x40A11#19

/-- A step on the overflowed request: TX_SEAL. -/
def fullTxState : State := (withBlk fullTxBlk).present 0x40004#19

theorem witness_StepKeepsBufferBounds :
    (BufferBounds busyState.blk ∧ ∃ t, step busyState = .next t) ∧
    (BufferBounds fullTxState.blk ∧ ∃ t, step fullTxState = .next t) :=
  ⟨⟨bufferBounds_busyBlk, _, rfl⟩, ⟨bufferBounds_fullTxBlk, _, rfl⟩⟩

theorem witness_StepKeepsTheSealedTrailer :
    (SealedFrameHasTrailer busyState.blk ∧ busyState.blk.txSealed = true ∧
      ∃ t, step busyState = .next t) :=
  ⟨fun _ => by decide +kernel, rfl, _, rfl⟩

theorem witness_StepKeepsOverflowMeansFull :
    (BufferBounds busyState.blk ∧ OverflowMeansFull busyState.blk ∧ busyState.blk.rxOvf = true ∧
      ∃ t, step busyState = .next t) ∧
    (BufferBounds fullTxState.blk ∧ OverflowMeansFull fullTxState.blk ∧
      fullTxState.blk.txOvf = true ∧ ∃ t, step fullTxState = .next t) :=
  ⟨⟨bufferBounds_busyBlk, ⟨fun _ => by decide +kernel, fun h => (nomatch h)⟩, rfl, _, rfl⟩,
    ⟨bufferBounds_fullTxBlk, ⟨fun h => (nomatch h), fun _ => by decide +kernel⟩, rfl, _, rfl⟩⟩

theorem resultRecord_busyBlk : ResultRecord busyBlk where
  code := by decide
  errorFc := by decide
  cls := by decide
  devErr := by decide
  decoded := by decide
  payBound := by decide
  crcAgree := by decide
  crcDiffer := by decide
  noCrc := by decide
  nothing := by decide

theorem witness_StepKeepsTheResultRecord :
    BufferBounds busyState.blk ∧ ResultRecord busyState.blk ∧ ∃ t, step busyState = .next t :=
  ⟨bufferBounds_busyBlk, resultRecord_busyBlk, _, rfl⟩

theorem witness_CrcStepLosesNothing :
    crcStep 0xFFFF#16 0x01#8 = crcStep 0xFFFF#16 0x01#8 := rfl

theorem witness_AccumulatorHoldsTheCrcOfTheFedBytes :
    ∀ i ∈ ([.wrCrcIn 0x31#8, .decode, .wrCrcIn 0x32#8] : List Instr),
      i ≠ .crcInit ∧ i ≠ .softReset := by decide

theorem witness_CrcRoundTrip :
    (2 ≤ okFrame.length ∧ recomputedCrc okFrame = claimedCrc okFrame) ∧
    (2 ≤ (okFrame.set 7 0xA5#8).length ∧
      recomputedCrc (okFrame.set 7 0xA5#8) ≠ claimedCrc (okFrame.set 7 0xA5#8)) ∧
    (2 ≤ ([0xFF#8, 0xFF#8] : List Byte).length ∧
      recomputedCrc [0xFF#8, 0xFF#8] = claimedCrc [0xFF#8, 0xFF#8]) := by decide +kernel

theorem witness_ReplyLengthTable :
    (29#8 ∉ ([30, 31, 32, 33, 48, 66, 67, 73, 74, 95] : List Byte)) ∧
    (255#8 ∉ ([30, 31, 32, 33, 48, 66, 67, 73, 74, 95] : List Byte)) := by decide

theorem witness_WrReqFcHoldsItsByte :
    let b := { withRx okFrame with reqFc := 128#8 }
    127#8 < b.reqFc ∧ (decodeFrame b.rx).result = 0x01#8 := by decide +kernel

theorem witness_WrTxInAppendsOrFlags :
    busyBlk.txSealed = true ∧
    (fullTxBlk.txSealed = false ∧ 248 ≤ fullTxBlk.tx.length) ∧
    ((txBlk 247).txSealed = false ∧ (txBlk 247).tx.length < 248) := by decide +kernel

theorem witness_TxSealAppendsTheTrailer :
    busyBlk.txSealed = true ∧
    ((txBlk 249).txSealed = false ∧ 248 < (txBlk 249).tx.length) ∧
    (fullTxBlk.txSealed = false ∧ fullTxBlk.tx.length ≤ 248) := by decide +kernel

theorem witness_TxReadsReturnTheFrame :
    busyBlk.tx.length ≤ 250 ∧ (4#8).toNat < busyBlk.tx.length ∧
    busyBlk.tx.length ≤ (5#8).toNat := by decide

theorem witness_WrRxInAppendsOrFlags :
    (withRx (List.replicate 250 0#8)).rx.length = 250 ∧
    (withRx (List.replicate 249 0#8)).rx.length ≠ 250 := by decide +kernel

theorem witness_RxReadsReturnTheBuffer :
    busyBlk.rx.length ≤ 250 ∧ (249#8).toNat < busyBlk.rx.length ∧
    busyBlk.rx.length ≤ (250#8).toNat := by decide +kernel

theorem witness_FrameDecoderOutcomes :
    ([1#8, 0x1E#8, 0x28#8, 0x80#8] : List Byte).length < 5 ∧
    (0#8 ∉ ([1, 2, 3, 4, 32] : List Byte)) ∧ (255#8 ∉ ([1, 2, 3, 4, 32] : List Byte)) := by decide

theorem witness_ValidateChecksCodeThenAddress :
    let o := decodeFrame okFrame
    (decodeFrame errorFrame).result ≠ 0x01#8 ∧
    (o.result = 0x01#8 ∧ o.rspFc ≠ 31#8) ∧
    (o.result = 0x01#8 ∧ o.rspFc = 30#8 ∧ 251#8 ≠ 250#8 ∧ o.rspAddr ≠ 251#8) ∧
    (o.result = 0x01#8 ∧ o.rspFc = 30#8 ∧ (250#8 = 250#8 ∨ o.rspAddr = 250#8)) ∧
    (o.result = 0x01#8 ∧ o.rspFc = 30#8 ∧ (1#8 = 250#8 ∨ o.rspAddr = 1#8)) := by decide +kernel

theorem witness_CheckWritesTheValidatedOutcome :
    ({ withRx okFrame with reqAddr := 250#8 }.reqAddr = 250#8) ∧
    (127#8 < { withRx okFrame with reqFc := 128#8 }.reqFc ∧
      (decodeFrame { withRx okFrame with reqFc := 128#8 }.rx).result = 0x01#8) ∧
    (decodeFrame (withRx errorFrame).rx).result = 0x03#8 ∧
    ∃ t, exec .check (withBlk (withRx okFrame)) = .next t :=
  ⟨by decide, by decide +kernel, by decide +kernel, _, rfl⟩

theorem witness_OnlyAddress250IsTransparent :
    ∀ a ∈ ([250, 1, 251, 249] : List Byte),
      let b := { withRx okFrame with reqAddr := a, reqFc := 30#8 }
      (decodeFrame b.rx).result = 0x01#8 ∧ byteAt b.rx 1 = b.reqFc := by decide +kernel

theorem witness_FrameRoundTrip :
    State.reset.blk.rx = [] ∧ 127#8 ≤ 127#8 ∧ ([] : List Byte).length ≤ 246 ∧
    (List.replicate 246 0#8).length ≤ 246 ∧ List.replicate 246 0#8 ≠ [] :=
  ⟨rfl, by decide, by decide, by decide +kernel, by decide⟩

theorem witness_SingleByteChangeIsDetected :
    (decodeFrame okFrame).result = 0x01#8 ∧
    (∀ e ∈ ([(0, 0x02), (1, 0x7F), (1, 0x80), (7, 0xA5)] : List (Nat × Byte)),
      e.1 < okFrame.length ∧ byteAt okFrame e.1 ≠ e.2 ∧
        (withBlk (withRx (okFrame.set e.1 e.2))).blk.rx = okFrame.set e.1 e.2) := by
  decide +kernel

theorem witness_ReservedWritesOnlyRaiseAccErr :
    0x09#8 ≤ 0x09#8 ∧ 0x09#8 ≤ 0xFF#8 ∧
    (∀ a ∈ ([0x001, 0x007, 0x00B, 0x016, 0x100, 0x3FF] : List PortAddr),
      a ∉ ([0x000, 0x002, 0x005, 0x006, 0x008, 0x00A] : List PortAddr)) := by decide

theorem witness_ReservedReadsReturnZero :
    ∀ a ∈ ([0x000, 0x00A, 0x016, 0x0FF, 0x300, 0x3FF] : List PortAddr),
      a ∈ ([0x000, 0x002, 0x008, 0x00A] : List PortAddr) ∨ (0x016#10 ≤ a ∧ a ≤ 0x0FF#10) ∨
        0x300#10 ≤ a := by decide

theorem witness_EveryReadReturnsTheMapAndKeepsTheRecord :
    (0x3FFFF#19).getLsbD 18 = false ∧ (0x00C00#19).getLsbD 18 = false := by decide

theorem witness_RepeatedAccesses :
    (∀ b, Instr.check ≠ .wrCrcIn b) ∧ (∀ b, Instr.check ≠ .wrRxIn b) ∧
    (∀ b, Instr.check ≠ .wrTxIn b) ∧ Instr.check ≠ .txSeal :=
  ⟨fun _ h => (nomatch h), fun _ h => (nomatch h), fun _ h => (nomatch h), fun h => (nomatch h)⟩

theorem witness_OnlyTheirOwnAccessesChangeEachField :
    (∃ t, exec .decode (withBlk busyBlk) = .next t) ∧ writesCrc .decode = false ∧
    writesRx .decode = false ∧ writesTx .decode = false ∧ writesTxSealed (.wrTxIn 0#8) = false ∧
    writesReqAddr (.wrReqFc 0#8) = false ∧ writesReqFc (.wrReqAddr 0#8) = false ∧
    writesRxOvf .txStart = false ∧ writesTxOvf (.wrRxIn 0#8) = false ∧
    writesAccErr .rxClear = false ∧ writesResults (.wrRxIn 0#8) = false :=
  ⟨⟨_, rfl⟩, by decide⟩

theorem witness_StickyFlagsHaveTheirCauses :
    (BufferBounds busyBlk ∧ busyBlk.rxOvf = true ∧ busyBlk.accErr = true ∧ busyBlk.txOvf = false ∧
      ∃ t, exec .rxClear (withBlk busyBlk) = .next t) ∧
    (BufferBounds fullTxBlk ∧ fullTxBlk.rxOvf = false ∧ fullTxBlk.accErr = false ∧
      fullTxBlk.txOvf = true ∧ ∃ t, exec .txStart (withBlk fullTxBlk) = .next t) :=
  ⟨⟨bufferBounds_busyBlk, rfl, rfl, rfl, _, rfl⟩, ⟨bufferBounds_fullTxBlk, rfl, rfl, rfl, _, rfl⟩⟩

theorem witness_BuffersOnlyGrowAtTheEnd :
    ∃ t, exec (.wrRxIn 7#8) (withBlk (withRx okFrame)) = .next t := ⟨_, rfl⟩

theorem witness_WritesKeepEveryOtherPortAddress :
    (∃ t, exec (.wrTxIn 7#8) (withBlk { Block.reset with tx := [1#8] }) = .next t) ∧
    0x200#10 ≠ 0x001#10 ∧ 0x200#10 ≠ 0x00B#10 ∧ (0x200#10).toNat ≠ 0x200 + 1 :=
  ⟨⟨_, rfl⟩, by decide⟩

theorem witness_TwoByteReadsGiveTheValue :
    (∀ i ∈ ([.decode, .wrRxIn 1#8] : List Instr), writesCrc i = false) ∧
    (∀ i ∈ ([.wrCrcIn 1#8, .wrRxIn 1#8] : List Instr), writesResults i = false) := by decide

theorem witness_ResultNamesTheSourceError :
    { Block.reset with result := 0x02#8 }.result = 0x02#8 ∧
    { Block.reset with result := 0x03#8 }.result = 0x03#8 ∧
    busyBlk.result = 0x04#8 ∧ { Block.reset with result := 0x05#8 }.result = 0x05#8 ∧
    { Block.reset with result := 0x06#8 }.result ≤ 0x06#8 ∧ Block.reset.result = 0x00#8 := by
  decide

theorem witness_TransactionValidatesItsReply :
    (127#8 ≤ 127#8 ∧ List.replicate 246 0#8 ≠ [] ∧ (List.replicate 246 0#8).length ≤ 246 ∧
      encodeFrame 5#8 127#8 (List.replicate 246 0#8) =
        encodeFrame 5#8 127#8 (List.replicate 246 0#8)) ∧
    (30#8 ≤ 127#8 ∧ ([0x3F#8, 0x80#8, 0#8, 0#8] : List Byte) ≠ [] ∧
      okFrame = encodeFrame 1#8 30#8 [0x3F#8, 0x80#8, 0#8, 0#8]) :=
  ⟨⟨by decide, by decide, by decide +kernel, rfl⟩, by decide, by decide, by decide +kernel⟩

end Sys2Proof.Machine.Tests
end

section
/-! PROOFS. Every access and every step answers; what an access makes of the buffers and of the
result registers; and the invariants of a whole run (spec/00_scope.md R12). -/

namespace Sys2Proof.Machine

/-! ### Every access and every step answers -/

theorem exec_answers (i : Instr) (s : State) : ∃ t, exec i s = .next t := by
  cases i <;> exact ⟨_, rfl⟩

theorem step_of_presented {s : State} {w : AccessWord} {rest : List PortInput}
    (h : s.inputs = ⟨false, some w⟩ :: rest) :
    step s = exec (decode w) { s with inputs := rest } := by
  rw [step, h]

theorem step_answers (s : State) : ∃ t, step s = .next t := by
  match h : s.inputs with
  | [] => exact ⟨_, by rw [step, h]⟩
  | ⟨true, _⟩ :: _ => exact ⟨_, by rw [step, h]⟩
  | ⟨false, none⟩ :: _ => exact ⟨_, by rw [step, h]⟩
  | ⟨false, some w⟩ :: _ => rw [step_of_presented h]; exact exec_answers _ _

/-- The induction over a run: what reset has and every access keeps holds at the end of every run,
and every run has an end. -/
theorem run_keeps {P : Block → Prop} (hr : P Block.reset)
    (hk : ∀ i b, P b → P (blockAfter i b)) (n : Nat) (s : State) (hs : P s.blk) :
    ∃ t : State, Host.Core.run Sys2Proof.core n s = .next t ∧ P t.blk := by
  induction n generalizing s with
  | zero => exact ⟨s, rfl, hs⟩
  | succ n ih =>
    obtain ⟨u, hu⟩ := step_answers s
    rw [core_run_next n hu]
    exact ih u (step_keeps hr hk hs hu)

/-! ### The buffers hold at most FRAME_MAX bytes -/

theorem Memory.wf_blockAfter (i : Instr) {b : Block} (h : Memory.wf b = true) :
    Memory.wf (blockAfter i b) = true := by
  cases i
  case rxClear => exact Memory.wf_clearRx h
  case txStart => exact Memory.wf_startTx h
  case txSeal => exact Memory.wf_sealTx h
  case softReset => exact Memory.wf_reset
  case wrRxIn x => exact Memory.wf_pushRx x h
  case wrTxIn x => exact Memory.wf_pushTx x h
  all_goals exact h

/-! ### What an access makes of the result registers -/

@[simp] theorem Block.outcome_pushRx (b : Block) (x : Byte) : (b.pushRx x).outcome = b.outcome := by
  rcases b.pushRx_cases x with ⟨_, e⟩ | ⟨_, e⟩ <;> rw [e] <;> rfl

@[simp] theorem Block.outcome_pushTx (b : Block) (x : Byte) : (b.pushTx x).outcome = b.outcome := by
  rcases b.pushTx_cases x with ⟨_, e⟩ | ⟨_, _, e⟩ | ⟨_, _, e⟩ <;> rw [e] <;> rfl

@[simp] theorem Block.outcome_sealTx (b : Block) : b.sealTx.outcome = b.outcome := by
  rcases b.sealTx_cases with ⟨_, e⟩ | ⟨_, _, e⟩ | ⟨_, _, e⟩ <;> rw [e] <;> rfl

/-- RESULT and the result registers after an access: as before, emptied by RX_CLEAR or SOFT_RESET,
or the outcome of DECODE or CHECK on `rx` (spec/10_state.md R35). -/
theorem outcome_blockAfter_cases (i : Instr) (b : Block) :
    (blockAfter i b).outcome = b.outcome ∨
    ((i = .rxClear ∨ i = .softReset) ∧ (blockAfter i b).outcome = noOutcome) ∨
    (i = .decode ∧ (blockAfter i b).outcome = decodeFrame b.rx) ∨
    (i = .check ∧
      (blockAfter i b).outcome = validate (decodeFrame b.rx) b.reqAddr b.reqFc) := by
  cases i
  case rxClear => exact .inr (.inl ⟨.inl rfl, rfl⟩)
  case softReset => exact .inr (.inl ⟨.inr rfl, rfl⟩)
  case decode => exact .inr (.inr (.inl ⟨rfl, rfl⟩))
  case check => exact .inr (.inr (.inr ⟨rfl, rfl⟩))
  case txSeal => exact .inl b.outcome_sealTx
  case wrRxIn x => exact .inl (b.outcome_pushRx x)
  case wrTxIn x => exact .inl (b.outcome_pushTx x)
  all_goals exact .inl rfl

/-! ### RESULT and DEV_CLASS are codes the block writes (spec/10_state.md R33, R34) -/

/-- RESULT is one of the seven written codes, ECHO_MISMATCH not among them, and DEV_CLASS one of
the six classes or 0. -/
def FrameOutcome.WrittenCodes (o : FrameOutcome) : Prop :=
  o.result ≤ 0x06#8 ∧ o.devClass ≤ 0x06#8

theorem classify_le (code : Byte) : classify code ≤ 0x06#8 := by
  unfold classify
  split_ifs <;> decide

theorem writtenCodes_noOutcome : noOutcome.WrittenCodes := ⟨by decide, by decide⟩

theorem writtenCodes_decodeFrame (buf : List Byte) : (decodeFrame buf).WrittenCodes := by
  rcases decodeFrame_cases buf with ⟨_, e⟩ | ⟨_, _, e⟩ | ⟨_, _, _, e⟩ | ⟨_, _, _, e⟩ <;> rw [e]
  · exact ⟨(by decide : resTooShort ≤ 0x06#8), (by decide : 0#8 ≤ 0x06#8)⟩
  · exact ⟨(by decide : resDeviceError ≤ 0x06#8), classify_le _⟩
  · exact ⟨(by decide : resBadCrc ≤ 0x06#8), (by decide : 0#8 ≤ 0x06#8)⟩
  · exact ⟨(by decide : resOk ≤ 0x06#8), (by decide : 0#8 ≤ 0x06#8)⟩

theorem writtenCodes_validate {o : FrameOutcome} (h : o.WrittenCodes) (ra rf : Byte) :
    (validate o ra rf).WrittenCodes := by
  have hclass : o.devClass ≤ 0x06#8 := h.2
  rcases validate_cases o ra rf with ⟨_, e⟩ | ⟨_, _, e⟩ | ⟨_, _, _, _, e⟩ | ⟨_, _, _, e⟩ <;> rw [e]
  · exact h
  · exact ⟨(by decide : resNonmatchingFc ≤ 0x06#8), hclass⟩
  · exact ⟨(by decide : resWrongAddress ≤ 0x06#8), hclass⟩
  · exact h

theorem writtenCodes_blockAfter (i : Instr) {b : Block} (h : b.outcome.WrittenCodes) :
    (blockAfter i b).outcome.WrittenCodes := by
  rcases outcome_blockAfter_cases i b with e | ⟨_, e⟩ | ⟨_, e⟩ | ⟨_, e⟩ <;> rw [e]
  · exact h
  · exact writtenCodes_noOutcome
  · exact writtenCodes_decodeFrame b.rx
  · exact writtenCodes_validate (writtenCodes_decodeFrame b.rx) b.reqAddr b.reqFc

/-- Settles O12: the buffers' canonical form and the written codes hold at reset and are kept by
every access, so they hold at the end of every run. -/
theorem everyHostRunFromResetStaysInBounds : Obligations.EveryHostRunFromResetStaysInBounds := by
  intro ins
  obtain ⟨t, hrun, hwf, hresult, hclass⟩ :=
    run_keeps (P := fun b => Memory.wf b = true ∧ b.outcome.WrittenCodes)
      ⟨Memory.wf_reset, writtenCodes_noOutcome⟩
      (fun i _ ⟨hwf, hcodes⟩ => ⟨Memory.wf_blockAfter i hwf, writtenCodes_blockAfter i hcodes⟩)
      ins.length { State.reset with inputs := ins } ⟨Memory.wf_reset, writtenCodes_noOutcome⟩
  obtain ⟨hrx, htx⟩ := (Memory.wf_iff t.blk).mp hwf
  exact ⟨t, hrun, hrx, htx, hresult, hclass⟩

/-! ### A presented access is the next one -/

theorem accessWordOf_of_lt {n : Nat} (h : n < 2 ^ 19) :
    accessWordOf n = .ok (BitVec.ofNat 19 n) := if_pos h

/-- A table word of 24 bits that is an access word is presented as that word. -/
theorem withFetchWord_of_lt (s : State) {n : Nat} (h : n < 2 ^ 19) :
    s.withFetchWord 24 n = s.present (BitVec.ofNat 19 n) := by
  have hmod : n % 2 ^ 24 = n := Nat.mod_eq_of_lt (by omega)
  rw [State.withFetchWord, hmod, accessWordOf_of_lt h]

/-- Settles O6: a table word is presented as an access word, and a presented word is the next
access. -/
theorem stepRunsThePresentedAccess : Obligations.StepRunsThePresentedAccess := by
  refine ⟨fun _ _ _ h => step_of_presented h, fun s n h => ?_⟩
  rw [withFetchWord_of_lt s h, step_present]

/-- Settles O10: every arm of `exec` answers a next state, and so does every case of `step`. -/
theorem everyAccessAndStepAnswersANextState : Obligations.EveryAccessAndStepAnswersANextState :=
  ⟨exec_answers, step_answers⟩

end Sys2Proof.Machine
end

section
/-! PROOFS. The state record: its reset values, the invariants that every step keeps, what a read
returns, and what each access leaves unchanged (spec/10_state.md). -/

namespace Sys2Proof.Machine

/-! ### The buffers' bounds with the room for the trailer (spec/10_state.md R21) -/

/-- An unsealed `tx` leaves room for its trailer (spec/41_frame_tx.md R137). -/
def TrailerFits (b : Block) : Prop :=
  b.txSealed = false → b.tx.length ≤ Config.frameMax - 2

theorem bufferBounds_iff (b : Block) :
    BufferBounds b ↔ Memory.wf b = true ∧ TrailerFits b := by
  rw [Memory.wf_iff, and_assoc]; rfl

theorem trailerFits_of_sealed {b : Block} (h : b.txSealed = true) : TrailerFits b :=
  fun hf => absurd (h.symm.trans hf) (by decide)

theorem trailerFits_pushRx {b : Block} (x : Byte) (h : TrailerFits b) :
    TrailerFits (b.pushRx x) := by
  rcases b.pushRx_cases x with ⟨_, e⟩ | ⟨_, e⟩ <;> rw [e] <;> exact h

/-- An append stops at the trailer's room. -/
theorem trailerFits_pushTx {b : Block} (x : Byte) (h : TrailerFits b) :
    TrailerFits (b.pushTx x) := by
  rcases b.pushTx_cases x with ⟨_, e⟩ | ⟨_, _, e⟩ | ⟨_, hroom, e⟩ <;> rw [e]
  · exact h
  · exact h
  · intro _
    rw [Block.setTx_tx, List.length_append, List.length_singleton]
    omega

theorem trailerFits_sealTx {b : Block} (h : TrailerFits b) : TrailerFits b.sealTx := by
  rcases b.sealTx_cases with ⟨_, e⟩ | ⟨_, _, e⟩ | ⟨_, _, e⟩ <;> rw [e]
  · exact h
  · exact h
  · exact trailerFits_of_sealed rfl

theorem trailerFits_blockAfter (i : Instr) {b : Block} (h : TrailerFits b) :
    TrailerFits (blockAfter i b) := by
  cases i
  case txStart => exact fun _ => (by decide : 2 ≤ Config.frameMax - 2)
  case txSeal => exact trailerFits_sealTx h
  case softReset => exact fun _ => Nat.zero_le _
  case wrRxIn x => exact trailerFits_pushRx x h
  case wrTxIn x => exact trailerFits_pushTx x h
  all_goals exact h

theorem bufferBounds_reset : BufferBounds Block.reset :=
  (bufferBounds_iff _).mpr ⟨Memory.wf_reset, fun _ => Nat.zero_le _⟩

theorem bufferBounds_blockAfter (i : Instr) {b : Block} (h : BufferBounds b) :
    BufferBounds (blockAfter i b) := by
  rw [bufferBounds_iff] at *
  obtain ⟨hwf, hroom⟩ := h
  exact ⟨Memory.wf_blockAfter i hwf, trailerFits_blockAfter i hroom⟩

/-- Settles O13: the bounds hold of the reset record and every access keeps them. -/
theorem stepKeepsBufferBounds : Obligations.StepKeepsBufferBounds :=
  fun _ _ hs h => step_keeps bufferBounds_reset (fun i _ => bufferBounds_blockAfter i) hs h

/-! ### What the result registers say together (spec/10_state.md R33, R34) -/

/-- The outcome record, written into the result registers, makes a result record. -/
def FrameOutcome.Consistent (o : FrameOutcome) : Prop := ResultRecord (Block.reset.setOutcome o)

/-- The result record speaks of RESULT and the result registers alone. -/
theorem resultRecord_iff (b : Block) : ResultRecord b ↔ b.outcome.Consistent :=
  ⟨fun ⟨code, err, cls, dev, dec, pay, agree, differ, noCrc, nothing⟩ =>
      ⟨code, err, cls, dev, dec, pay, agree, differ, noCrc, nothing⟩,
    fun ⟨code, err, cls, dev, dec, pay, agree, differ, noCrc, nothing⟩ =>
      ⟨code, err, cls, dev, dec, pay, agree, differ, noCrc, nothing⟩⟩

theorem consistent_noOutcome : noOutcome.Consistent := by
  unfold FrameOutcome.Consistent
  constructor <;> decide

/-- The payload length of a decoded frame that fits the buffer: the frame without its address, its
function code and its trailer, so neither 0 nor more than the buffer leaves room for. -/
theorem payLen_of_decoded {n : Nat} (h5 : 5 ≤ n) (h : n ≤ Config.frameMax) :
    BitVec.ofNat 8 (n - 4) ≠ 0#8 ∧ (BitVec.ofNat 8 (n - 4)).toNat ≤ Config.frameMax - 4 := by
  have hval : (BitVec.ofNat 8 (n - 4)).toNat = n - 4 := by
    rw [Config.frameMax] at h
    rw [BitVec.toNat_ofNat]
    omega
  refine ⟨fun h0 => ?_, hval.le.trans (Nat.sub_le_sub_right h 4)⟩
  rw [h0, BitVec.toNat_zero] at hval
  omega

/-- Each outcome of the frame decoder is consistent (spec/42_frame_rx.md R158). -/
theorem consistent_decodeFrame {buf : List Byte} (h : buf.length ≤ Config.frameMax) :
    (decodeFrame buf).Consistent := by
  unfold FrameOutcome.Consistent
  rcases decodeFrame_cases buf with ⟨_, e⟩ | ⟨_, hfc, e⟩ | ⟨_, hfc, hcrc, e⟩ | ⟨hlen, hfc, hcrc, e⟩
    <;> rw [e]
  · constructor <;> simp +decide
  · constructor <;> simp +decide [hfc]
  · constructor <;> simp +decide [hfc, hcrc]
  · obtain ⟨hpos, hmax⟩ := payLen_of_decoded hlen h
    constructor
    case payBound => exact hmax
    all_goals simp +decide [hfc, hcrc, hpos]

/-- An OK that validation turns into NONMATCHING_FC or WRONG_ADDRESS keeps the other registers, so
it stays a frame that decoded (spec/42_frame_rx.md R159). -/
theorem consistent_rejected {o : FrameOutcome} (h : o.Consistent) (hok : o.result = resOk)
    {r : Byte} (hr : r = resNonmatchingFc ∨ r = resWrongAddress) :
    { o with result := r }.Consistent := by
  obtain ⟨_, herr, hcls, hdev, hdec, hpay, hagree, _, _, _⟩ := h
  -- what the record says of the other registers where RESULT is OK
  simp +decide [hok] at herr hcls hdev hdec hpay hagree
  unfold FrameOutcome.Consistent
  rcases hr with rfl | rfl <;> constructor <;> simp +decide [herr, hcls, hdev, hdec, hpay, hagree]

theorem consistent_validate {o : FrameOutcome} (h : o.Consistent) (ra rf : Byte) :
    (validate o ra rf).Consistent := by
  rcases validate_cases o ra rf with ⟨_, e⟩ | ⟨hok, _, e⟩ | ⟨hok, _, _, _, e⟩ | ⟨_, _, _, e⟩ <;>
    rw [e]
  · exact h
  · exact consistent_rejected h hok (.inl rfl)
  · exact consistent_rejected h hok (.inr rfl)
  · exact h

theorem resultRecord_reset : ResultRecord Block.reset :=
  (resultRecord_iff _).mpr consistent_noOutcome

theorem resultRecord_blockAfter (i : Instr) {b : Block} (hrx : b.rx.length ≤ Config.frameMax)
    (h : ResultRecord b) : ResultRecord (blockAfter i b) := by
  rw [resultRecord_iff] at *
  have hdecode : (decodeFrame b.rx).Consistent := consistent_decodeFrame hrx
  rcases outcome_blockAfter_cases i b with e | ⟨_, e⟩ | ⟨_, e⟩ | ⟨_, e⟩ <;> rw [e]
  · exact h
  · exact consistent_noOutcome
  · exact hdecode
  · exact consistent_validate hdecode b.reqAddr b.reqFc

/-- Settles O16: the result record together with the buffers' bounds, which bound the payload
length DECODE writes, holds of the reset record and is kept by every access. -/
theorem stepKeepsTheResultRecord : Obligations.StepKeepsTheResultRecord := by
  intro s t hbounds hrec h
  obtain ⟨-, hkept⟩ : BufferBounds t.blk ∧ ResultRecord t.blk :=
    step_keeps (P := fun b => BufferBounds b ∧ ResultRecord b)
      ⟨bufferBounds_reset, resultRecord_reset⟩
      (fun i _ ⟨hb, hr⟩ =>
        have ⟨hrx, _⟩ := hb
        ⟨bufferBounds_blockAfter i hb, resultRecord_blockAfter i hrx hr⟩)
      ⟨hbounds, hrec⟩ h
  exact hkept

/-! ### The reset record (spec/10_state.md R40) -/

@[simp] theorem byteAt_nil (i : Nat) : byteAt [] i = 0x00#8 := rfl

theorem Block.portRead_reset (a : PortAddr) :
    Block.reset.portRead a = if a = 0x003#10 ∨ a = 0x004#10 then 0xFF#8 else 0x00#8 := by
  by_cases h3 : a = 0x003#10
  · subst h3; decide
  · by_cases h4 : a = 0x004#10
    · subst h4; decide
    · rw [if_neg (not_or.mpr ⟨h3, h4⟩)]
      have hstatus : Block.reset.status = 0x00#8 := by decide
      have hexp : replyLen Block.reset.reqFc = 0x00#8 := by decide
      simp only [Block.portRead, if_neg h3, if_neg h4, hstatus, hexp]
      simp [Block.reset, hiByte, loByte, lenByte]

/-- Settles O8: only the two bytes of `crc` read as other than 0x00. -/
theorem resetValuesOfEveryField : Obligations.ResetValuesOfEveryField := ⟨rfl, Block.portRead_reset⟩

/-- Settles O17: no frame is sealed and no flag is up at reset. -/
theorem resetMeetsTheInvariants : Obligations.ResetMeetsTheInvariants :=
  ⟨bufferBounds_reset, nofun, ⟨nofun, nofun⟩, resultRecord_reset, Memory.wf_reset⟩

/-! ### A read returns the register map's byte (spec/10_state.md R25, R36) -/

theorem windowIndex_toNat (a : PortAddr) : (windowIndex a).toNat = a.toNat % 256 := by
  rw [windowIndex, BitVec.extractLsb'_toNat, Nat.shiftRight_zero]

/-- The addresses of a window, `0x100` to `0x1FF` or `0x200` to `0x2FF`, as numbers. -/
theorem toNat_rxWin {a : PortAddr} (h : 0x100#10 ≤ a ∧ a ≤ 0x1FF#10) :
    0x100 ≤ a.toNat ∧ a.toNat ≤ 0x1FF := h

theorem toNat_txWin {a : PortAddr} (h : 0x200#10 ≤ a ∧ a ≤ 0x2FF#10) :
    0x200 ≤ a.toNat ∧ a.toNat ≤ 0x2FF := h

theorem exec_rdRxWin_index (s : State) {a : PortAddr} (h : 0x100#10 ≤ a ∧ a ≤ 0x1FF#10) :
    exec (.rdRxWin (windowIndex a)) s =
      .next (s.completeRead (byteAt s.blk.rx (a.toNat - 0x100))) := by
  have hrange := toNat_rxWin h
  have hindex : a.toNat - 0x100 = (windowIndex a).toNat := by rw [windowIndex_toNat]; omega
  rw [hindex]; rfl

theorem exec_rdTxWin_index (s : State) {a : PortAddr} (h : 0x200#10 ≤ a ∧ a ≤ 0x2FF#10) :
    exec (.rdTxWin (windowIndex a)) s =
      .next (s.completeRead (byteAt s.blk.tx (a.toNat - 0x200))) := by
  have hrange := toNat_txWin h
  have hindex : a.toNat - 0x200 = (windowIndex a).toNat := by rw [windowIndex_toNat]; omega
  rw [hindex]; rfl

/-- A read chosen by a condition returns the byte chosen by that condition. -/
theorem exec_ite_read {c : Prop} [Decidable c] {i j : Instr} {s : State} {u v : Byte}
    (hi : c → exec i s = .next (s.completeRead u)) (hj : exec j s = .next (s.completeRead v)) :
    exec (if c then i else j) s = .next (s.completeRead (if c then u else v)) := by
  split
  · exact hi ‹c›
  · exact hj

/-- The decoder and the register map test the addresses in the same order: eighteen registers, each
read by its own instruction, then the two windows, and 0x00 for the rest. -/
theorem exec_decodeRead (a : PortAddr) (s : State) :
    exec (decodeRead a) s = .next (s.completeRead (s.blk.portRead a)) := by
  unfold decodeRead Block.portRead
  iterate 18 refine exec_ite_read (fun _ => rfl) ?_
  refine exec_ite_read (exec_rdRxWin_index s) ?_
  exact exec_ite_read (exec_rdTxWin_index s) rfl

/-- Settles O52: a word with RW = 0 is decoded by its address alone. -/
theorem everyReadReturnsTheMapAndKeepsTheRecord :
    Obligations.EveryReadReturnsTheMapAndKeepsTheRecord := by
  intro w s h
  have hread : decode w = decodeRead (addrField w) := by
    rw [decode, show rwField w = false from h]; rfl
  rw [hread, exec_decodeRead]
  rfl

/-! ### Each field is written by its own accesses only (spec/70_reset_and_hazards.md R256, R257) -/

/-- The record with every field that the access may write taken from `c`, and the others kept. -/
def Block.overwrittenBy (b : Block) (i : Instr) (c : Block) : Block where
  crc := bif writesCrc i then c.crc else b.crc
  reqAddr := bif writesReqAddr i then c.reqAddr else b.reqAddr
  reqFc := bif writesReqFc i then c.reqFc else b.reqFc
  tx := bif writesTx i then c.tx else b.tx
  txSealed := bif writesTxSealed i then c.txSealed else b.txSealed
  rx := bif writesRx i then c.rx else b.rx
  rxOvf := bif writesRxOvf i then c.rxOvf else b.rxOvf
  txOvf := bif writesTxOvf i then c.txOvf else b.txOvf
  accErr := bif writesAccErr i then c.accErr else b.accErr
  result := bif writesResults i then c.result else b.result
  rspAddr := bif writesResults i then c.rspAddr else b.rspAddr
  rspFc := bif writesResults i then c.rspFc else b.rspFc
  devErr := bif writesResults i then c.devErr else b.devErr
  devClass := bif writesResults i then c.devClass else b.devClass
  crcExp := bif writesResults i then c.crcExp else b.crcExp
  crcGot := bif writesResults i then c.crcGot else b.crcGot
  payLen := bif writesResults i then c.payLen else b.payLen

/-- The frame of every access: it changes no field but those it may write. -/
theorem blockAfter_eq_overwrittenBy (i : Instr) (b : Block) :
    blockAfter i b = b.overwrittenBy i (blockAfter i b) := by
  cases i
  case txSeal =>
    rw [blockAfter]
    rcases b.sealTx_cases with ⟨_, e⟩ | ⟨_, _, e⟩ | ⟨_, _, e⟩ <;> rw [e] <;> rfl
  case wrRxIn x =>
    rw [blockAfter]
    rcases b.pushRx_cases x with ⟨_, e⟩ | ⟨_, e⟩ <;> rw [e] <;> rfl
  case wrTxIn x =>
    rw [blockAfter]
    rcases b.pushTx_cases x with ⟨_, e⟩ | ⟨_, _, e⟩ | ⟨_, _, e⟩ <;> rw [e] <;> rfl
  all_goals rfl

/-- Settles O54: every field reads as the frame of the access says. -/
theorem onlyTheirOwnAccessesChangeEachField :
    Obligations.OnlyTheirOwnAccessesChangeEachField := by
  intro i s t h
  obtain ⟨hblk, hinputs, _⟩ := exec_inversion h
  have hframe : t.blk = s.blk.overwrittenBy i t.blk := by
    rw [hblk]; exact blockAfter_eq_overwrittenBy i s.blk
  refine ⟨?_, ?_, ?_, ?_, ?_, ?_, ?_, ?_, ?_, ?_, hinputs⟩
  all_goals
    intro hkeeps
    rw [hframe]
    simp [Block.overwrittenBy, Block.outcome, hkeeps]

/-! ### The buffers grow at the end only (spec/10_state.md R24) -/

theorem rx_blockAfter_of_not_writesRx {i : Instr} (h : writesRx i = false) (b : Block) :
    (blockAfter i b).rx = b.rx := by
  rw [blockAfter_eq_overwrittenBy, Block.overwrittenBy, h, cond_false]

theorem tx_blockAfter_of_not_writesTx {i : Instr} (h : writesTx i = false) (b : Block) :
    (blockAfter i b).tx = b.tx := by
  rw [blockAfter_eq_overwrittenBy, Block.overwrittenBy, h, cond_false]

theorem rx_blockAfter_cases (i : Instr) (b : Block) :
    (blockAfter i b).rx = b.rx ∨ (blockAfter i b).rx = [] ∨
      ∃ x, i = .wrRxIn x ∧ (blockAfter i b).rx = b.rx ++ [x] := by
  cases i
  case rxClear => exact .inr (.inl rfl)
  case softReset => exact .inr (.inl rfl)
  case wrRxIn x =>
    rw [blockAfter]
    rcases b.pushRx_cases x with ⟨_, e⟩ | ⟨_, e⟩ <;> rw [e]
    · exact .inl rfl
    · exact .inr (.inr ⟨x, rfl, rfl⟩)
  all_goals exact .inl (rx_blockAfter_of_not_writesRx rfl b)

theorem tx_blockAfter_cases (i : Instr) (b : Block) :
    (blockAfter i b).tx = b.tx ∨ (blockAfter i b).tx = [] ∨
      (blockAfter i b).tx = [b.reqAddr, b.reqFc] ∨
      (∃ x, i = .wrTxIn x ∧ (blockAfter i b).tx = b.tx ++ [x]) ∨
      (i = .txSeal ∧ (blockAfter i b).tx = withTrailer b.tx) := by
  cases i
  case txStart => exact .inr (.inr (.inl rfl))
  case softReset => exact .inr (.inl rfl)
  case wrTxIn x =>
    rw [blockAfter]
    rcases b.pushTx_cases x with ⟨_, e⟩ | ⟨_, _, e⟩ | ⟨_, _, e⟩ <;> rw [e]
    · exact .inl rfl
    · exact .inl rfl
    · exact .inr (.inr (.inr (.inl ⟨x, rfl, rfl⟩)))
  case txSeal =>
    rw [blockAfter]
    rcases b.sealTx_cases with ⟨_, e⟩ | ⟨_, _, e⟩ | ⟨_, _, e⟩ <;> rw [e]
    · exact .inl rfl
    · exact .inl rfl
    · exact .inr (.inr (.inr (.inr ⟨rfl, rfl⟩)))
  all_goals exact .inl (tx_blockAfter_of_not_writesTx rfl b)

/-- Settles O56: the cases of each buffer after an access. -/
theorem buffersOnlyGrowAtTheEnd : Obligations.BuffersOnlyGrowAtTheEnd := by
  intro i s t h
  obtain ⟨hblk, _, _⟩ := exec_inversion h
  rw [hblk]
  exact ⟨rx_blockAfter_cases i s.blk, tx_blockAfter_cases i s.blk⟩

/-! ### What each access leaves as it was, read through the port (spec/10_state.md R25, R36) -/

theorem Block.portRead_setCrc (b : Block) (v : Half) {a : PortAddr} (hhi : a ≠ 0x003#10)
    (hlo : a ≠ 0x004#10) : (b.setCrc v).portRead a = b.portRead a := by
  simp only [Block.portRead, if_neg hhi, if_neg hlo]
  rfl

theorem Block.portRead_setReqAddr (b : Block) (v : Byte) {a : PortAddr} (h : a ≠ 0x005#10) :
    (b.setReqAddr v).portRead a = b.portRead a := by
  simp only [Block.portRead, if_neg h]
  rfl

/-- STATUS too, since RX_AT_EXP follows `req_fc` (spec/10_state.md R26). -/
theorem Block.portRead_setReqFc (b : Block) (v : Byte) {a : PortAddr} (hstatus : a ≠ 0x001#10)
    (hfc : a ≠ 0x006#10) (hexp : a ≠ 0x007#10) :
    (b.setReqFc v).portRead a = b.portRead a := by
  simp only [Block.portRead, if_neg hstatus, if_neg hfc, if_neg hexp]
  rfl

/-- The flags and the seal are read in STATUS only. -/
theorem Block.portRead_setFlags (b : Block) (sealed rxOvf txOvf accErr : Bool) {a : PortAddr}
    (h : a ≠ 0x001#10) :
    { b with txSealed := sealed, rxOvf := rxOvf, txOvf := txOvf, accErr := accErr }.portRead a =
      b.portRead a := by
  simp only [Block.portRead, if_neg h]

theorem Block.portRead_flagAccErr (b : Block) {a : PortAddr} (h : a ≠ 0x001#10) :
    b.flagAccErr.portRead a = b.portRead a :=
  b.portRead_setFlags b.txSealed b.rxOvf b.txOvf true h

theorem Block.portRead_flagTxOvf (b : Block) {a : PortAddr} (h : a ≠ 0x001#10) :
    b.flagTxOvf.portRead a = b.portRead a :=
  b.portRead_setFlags b.txSealed b.rxOvf true b.accErr h

/-- The result registers are read at 0x00C to 0x015 only. -/
theorem Block.portRead_setOutcome (b : Block) (o : FrameOutcome) {a : PortAddr}
    (h : ¬(0x00C#10 ≤ a ∧ a ≤ 0x015#10)) : (b.setOutcome o).portRead a = b.portRead a := by
  have hne : ∀ k : PortAddr, 0x00C#10 ≤ k → k ≤ 0x015#10 → a ≠ k :=
    fun k hlo hhi e => h (e ▸ ⟨hlo, hhi⟩)
  simp [Block.portRead, hne]
  rfl

/-- `rx` is read in STATUS, in RX_LEN and in its window only. -/
theorem Block.portRead_setRx (b : Block) (l : List Byte) {a : PortAddr} (hstatus : a ≠ 0x001#10)
    (hlen : a ≠ 0x009#10)
    (hwin : 0x100#10 ≤ a ∧ a ≤ 0x1FF#10 →
      byteAt l (a.toNat - 0x100) = byteAt b.rx (a.toNat - 0x100)) :
    (b.setRx l).portRead a = b.portRead a := by
  simp only [Block.portRead, if_neg hstatus, if_neg hlen]
  by_cases h : 0x100#10 ≤ a ∧ a ≤ 0x1FF#10
  · simp only [if_pos h, Block.setRx_rx, hwin h]
    rfl
  · simp only [if_neg h]
    rfl

/-- `tx` is read in TX_LEN and in its window only. -/
theorem Block.portRead_setTx (b : Block) (l : List Byte) {a : PortAddr} (hlen : a ≠ 0x00B#10)
    (hwin : 0x200#10 ≤ a ∧ a ≤ 0x2FF#10 →
      byteAt l (a.toNat - 0x200) = byteAt b.tx (a.toNat - 0x200)) :
    (b.setTx l).portRead a = b.portRead a := by
  simp only [Block.portRead, if_neg hlen]
  by_cases h : 0x200#10 ≤ a ∧ a ≤ 0x2FF#10
  · simp only [if_pos h, Block.setTx_tx, hwin h]
    rfl
  · simp only [if_neg h]
    rfl

/-- An append changes the window bytes at the appended positions only. -/
theorem byteAt_append_of_outside {buf new : List Byte} {i : Nat}
    (h : i < buf.length ∨ buf.length + new.length ≤ i) :
    byteAt (buf ++ new) i = byteAt buf i := by
  rcases h with h | h
  · exact List.getD_append _ _ _ _ h
  · have hshort : (buf ++ new).length ≤ i := by rw [List.length_append]; exact h
    rw [byteAt, byteAt, List.getD_eq_default _ _ hshort,
      List.getD_eq_default _ _ (Nat.le_of_add_right_le h)]

theorem Block.portRead_pushRx (b : Block) (x : Byte) {a : PortAddr} (hstatus : a ≠ 0x001#10)
    (hlen : a ≠ 0x009#10) (hend : a.toNat ≠ 0x100 + b.rx.length) :
    (b.pushRx x).portRead a = b.portRead a := by
  rcases b.pushRx_cases x with ⟨_, e⟩ | ⟨_, e⟩ <;> rw [e]
  · exact b.portRead_setFlags b.txSealed true b.txOvf b.accErr hstatus
  · refine b.portRead_setRx _ hstatus hlen fun hwin => byteAt_append_of_outside ?_
    have hrange := toNat_rxWin hwin
    rw [List.length_singleton]
    omega

theorem Block.portRead_pushTx (b : Block) (x : Byte) {a : PortAddr} (hstatus : a ≠ 0x001#10)
    (hlen : a ≠ 0x00B#10) (hend : a.toNat ≠ 0x200 + b.tx.length) :
    (b.pushTx x).portRead a = b.portRead a := by
  rcases b.pushTx_cases x with ⟨_, e⟩ | ⟨_, _, e⟩ | ⟨_, _, e⟩ <;> rw [e]
  · exact b.portRead_flagAccErr hstatus
  · exact b.portRead_flagTxOvf hstatus
  · refine b.portRead_setTx _ hlen fun hwin => byteAt_append_of_outside ?_
    have hrange := toNat_txWin hwin
    rw [List.length_singleton]
    omega

theorem Block.portRead_sealTx (b : Block) {a : PortAddr} (hstatus : a ≠ 0x001#10)
    (hlen : a ≠ 0x00B#10) (hhi : a.toNat ≠ 0x200 + b.tx.length)
    (hlo : a.toNat ≠ 0x200 + b.tx.length + 1) : b.sealTx.portRead a = b.portRead a := by
  rcases b.sealTx_cases with ⟨_, e⟩ | ⟨_, _, e⟩ | ⟨_, _, e⟩ <;> rw [e]
  · exact b.portRead_flagAccErr hstatus
  · exact b.portRead_flagTxOvf hstatus
  · refine ((b.setTx _).portRead_setFlags true b.rxOvf b.txOvf b.accErr hstatus).trans ?_
    refine b.portRead_setTx _ hlen fun hwin => byteAt_append_of_outside ?_
    have hrange := toNat_txWin hwin
    rw [crcTrailer_length]
    omega

theorem Block.portRead_startTx (b : Block) {a : PortAddr} (hstatus : a ≠ 0x001#10)
    (hlen : a ≠ 0x00B#10) (hwin : ¬(0x200#10 ≤ a ∧ a ≤ 0x2FF#10)) :
    b.startTx.portRead a = b.portRead a :=
  ((b.setTx _).portRead_setFlags false b.rxOvf false b.accErr hstatus).trans
    (b.portRead_setTx _ hlen fun h => absurd h hwin)

theorem Block.portRead_clearRx (b : Block) {a : PortAddr} (hstatus : a ≠ 0x001#10)
    (hlen : a ≠ 0x009#10) (hresults : ¬(0x00C#10 ≤ a ∧ a ≤ 0x015#10))
    (hwin : ¬(0x100#10 ≤ a ∧ a ≤ 0x1FF#10)) : b.clearRx.portRead a = b.portRead a :=
  calc b.clearRx.portRead a
    _ = ({ b.setRx [] with rxOvf := false } : Block).portRead a :=
      Block.portRead_setOutcome { b.setRx [] with rxOvf := false } noOutcome hresults
    _ = (b.setRx []).portRead a :=
      (b.setRx []).portRead_setFlags b.txSealed false b.txOvf b.accErr hstatus
    _ = b.portRead a := b.portRead_setRx [] hstatus hlen fun h => absurd h hwin

/-- Settles O57: one case per access that writes; the reads and NOP keep the record. -/
theorem writesKeepEveryOtherPortAddress : Obligations.WritesKeepEveryOtherPortAddress := by
  intro i s t a h ha
  obtain ⟨hblk, _, _⟩ := exec_inversion h
  rw [hblk]
  cases i
  case crcInit =>
    obtain ⟨hhi, hlo⟩ := ha
    exact s.blk.portRead_setCrc _ hhi hlo
  case wrCrcIn x =>
    obtain ⟨hhi, hlo⟩ := ha
    exact s.blk.portRead_setCrc _ hhi hlo
  case wrReqAddr x => exact s.blk.portRead_setReqAddr x ha
  case wrReqFc x =>
    obtain ⟨hstatus, hfc, hexp⟩ := ha
    exact s.blk.portRead_setReqFc x hstatus hfc hexp
  case wrRxIn x =>
    obtain ⟨hstatus, hlen, hend⟩ := ha
    exact s.blk.portRead_pushRx x hstatus hlen hend
  case wrTxIn x =>
    obtain ⟨hstatus, hlen, hend⟩ := ha
    exact s.blk.portRead_pushTx x hstatus hlen hend
  case txSeal =>
    obtain ⟨hstatus, hlen, hhi, hlo⟩ := ha
    exact s.blk.portRead_sealTx hstatus hlen hhi hlo
  case txStart =>
    obtain ⟨hstatus, hlen, hwin⟩ := ha
    exact s.blk.portRead_startTx hstatus hlen hwin
  case rxClear =>
    obtain ⟨hstatus, hlen, hresults, hwin⟩ := ha
    exact s.blk.portRead_clearRx hstatus hlen hresults hwin
  case decode => exact s.blk.portRead_setOutcome _ ha
  case check => exact s.blk.portRead_setOutcome _ ha
  case errClear => exact s.blk.portRead_setFlags s.blk.txSealed false false false ha
  case cmdRsvd op => exact s.blk.portRead_flagAccErr ha
  case wrIgnored r d => exact s.blk.portRead_flagAccErr ha
  case softReset => exact ha.elim
  all_goals rfl

end Sys2Proof.Machine
end

section
/-! PROOFS. The port: the order of presented accesses, repeated accesses, and 16-bit values read as
two bytes (spec/20_memory.md R66, R69, R72). -/

namespace Sys2Proof.Machine

/-! ### Presented accesses take effect in order (spec/20_memory.md R72) -/

/-- An access neither reads nor takes the inputs that wait behind it. -/
theorem exec_withInputs {i : Instr} {s t : State} (h : exec i s = .next t)
    (waiting : List PortInput) :
    exec i { s with inputs := waiting } = .next { t with inputs := waiting } := by
  cases i <;> cases h <;> rfl

/-- The step on the first presented word is its access; the other words still wait, and then the
inputs that waited before. -/
theorem step_presentAll {w : AccessWord} {s t : State} (h : exec (decode w) s = .next t)
    (ws : List AccessWord) :
    step { s with inputs := presentAll (w :: ws) ++ s.inputs } =
      .next { t with inputs := presentAll ws ++ t.inputs } := by
  obtain ⟨_, hinputs, _⟩ := exec_inversion h
  rw [hinputs]
  exact exec_withInputs h (presentAll ws ++ s.inputs)

/-- Settles O11, by induction on the presented words. -/
theorem presentedWordsTakeEffectInOrder : Obligations.PresentedWordsTakeEffectInOrder := by
  intro ws
  induction ws with
  | nil => exact fun _ => rfl
  | cons w ws ih =>
    intro s
    obtain ⟨t, ht⟩ := exec_answers (decode w) s
    rw [List.map_cons, runAccesses_cons _ ht, List.length_cons,
      core_run_next ws.length (step_presentAll ht ws)]
    exact ih t

/-! ### Repeated accesses (spec/20_memory.md R69) -/

/-- The record after one and after two issues of an access. -/
theorem exec_twice (i : Instr) (s : State) :
    ∃ t u, exec i s = .next t ∧ exec i t = .next u ∧ t.blk = blockAfter i s.blk ∧
      u.blk = blockAfter i (blockAfter i s.blk) := by
  obtain ⟨t, ht⟩ := exec_answers i s
  obtain ⟨u, hu⟩ := exec_answers i t
  obtain ⟨htblk, _, _⟩ := exec_inversion ht
  obtain ⟨hublk, _, _⟩ := exec_inversion hu
  exact ⟨t, u, ht, hu, htblk, htblk ▸ hublk⟩

/-- All accesses but the three byte streams and TX_SEAL are idempotent: what they write does not
depend on what they wrote. -/
theorem blockAfter_idempotent {i : Instr} (hcrc : ∀ x, i ≠ .wrCrcIn x) (hrx : ∀ x, i ≠ .wrRxIn x)
    (htx : ∀ x, i ≠ .wrTxIn x) (hseal : i ≠ .txSeal) (b : Block) :
    blockAfter i (blockAfter i b) = blockAfter i b := by
  cases i
  case wrCrcIn x => exact absurd rfl (hcrc x)
  case wrRxIn x => exact absurd rfl (hrx x)
  case wrTxIn x => exact absurd rfl (htx x)
  case txSeal => exact absurd rfl hseal
  all_goals rfl

/-- From reset a byte 0x01 fed twice moves `crc` twice or stands twice in its buffer, and a second
TX_SEAL raises ACC_ERR. -/
theorem blockAfter_twice_ne_once :
    ∀ i ∈ ([.wrCrcIn 0x01#8, .wrRxIn 0x01#8, .wrTxIn 0x01#8, .txSeal] : List Instr),
      blockAfter i (blockAfter i Block.reset) ≠ blockAfter i Block.reset := by
  simp only [List.forall_mem_cons]
  exact ⟨ne_of_apply_ne Block.crc (by decide +kernel), ne_of_apply_ne Block.rx (by decide),
    ne_of_apply_ne Block.tx (by decide), ne_of_apply_ne Block.accErr (by decide), nofun⟩

/-- Settles O53: idempotence of the record after an access, the frame of the reads (O52), and the
reset record as the counterexample for the four other accesses. -/
theorem repeatedAccesses : Obligations.RepeatedAccesses := by
  refine ⟨fun i s hcrc hrx htx hseal => ?_, fun w s hread => ?_, fun _ _ _ => ⟨_, rfl, rfl⟩,
    fun i hi => ?_⟩
  · obtain ⟨t, u, ht, hu, hone, htwo⟩ := exec_twice i s
    refine ⟨t, u, ht, hu, ?_⟩
    rw [htwo, hone, blockAfter_idempotent hcrc hrx htx hseal]
  · exact ⟨_, everyReadReturnsTheMapAndKeepsTheRecord w s hread, rfl⟩
  · obtain ⟨t, u, ht, hu, hone, htwo⟩ := exec_twice i State.reset
    refine ⟨State.reset, t, u, ht, hu, ?_⟩
    rw [htwo, hone]
    exact blockAfter_twice_ne_once i hi

/-! ### A 16-bit value read as two bytes (spec/20_memory.md R66) -/

/-- What every access of a list leaves as it was is the same after the list. -/
theorem runAccesses_keeps {α : Type} {f : Block → α} {is : List Instr}
    (hkeep : ∀ i ∈ is, ∀ b, f (blockAfter i b) = f b) (s : State) :
    ∃ t, runAccesses is s = .next t ∧ f t.blk = f s.blk := by
  induction is generalizing s with
  | nil => exact ⟨s, rfl, rfl⟩
  | cons i is ih =>
    rw [List.forall_mem_cons] at hkeep
    obtain ⟨hi, his⟩ := hkeep
    obtain ⟨t, ht⟩ := exec_answers i s
    obtain ⟨hblk, _, _⟩ := exec_inversion ht
    obtain ⟨u, hu, hf⟩ := ih his t
    refine ⟨u, (runAccesses_cons is ht).trans hu, ?_⟩
    rw [hf, hblk, hi]

theorem crc_blockAfter_of_not_writesCrc {i : Instr} (h : writesCrc i = false) (b : Block) :
    (blockAfter i b).crc = b.crc := by
  rw [blockAfter_eq_overwrittenBy, Block.overwrittenBy, h, cond_false]

theorem outcome_blockAfter_of_not_writesResults {i : Instr} (h : writesResults i = false)
    (b : Block) : (blockAfter i b).outcome = b.outcome := by
  rw [blockAfter_eq_overwrittenBy]
  simp [Block.overwrittenBy, Block.outcome, h]

/-- The read `hi`, the accesses `is` and the read `lo`, one after the other from `s`, complete, and
the two bytes read are those of `v`, the high byte first. -/
def PairReads (hi lo : Instr) (is : List Instr) (s : State) (v : Half) : Prop :=
  ∃ t u w h l, exec hi s = .next t ∧ t.out.rdata = some h ∧ runAccesses is t = .next u ∧
    exec lo u = .next w ∧ w.out.rdata = some l ∧ bigEndian h l = v

/-- A read of the high byte of `f` and one of its low byte give `f`, when the accesses between
leave `f` as it was. -/
theorem pairReads_of_keeps {hi lo : Instr} {f : Block → Half} {is : List Instr}
    (hhi : ∀ s, exec hi s = .next (s.completeRead (hiByte (f s.blk))))
    (hlo : ∀ s, exec lo s = .next (s.completeRead (loByte (f s.blk))))
    (hkeep : ∀ i ∈ is, ∀ b, f (blockAfter i b) = f b) (s : State) :
    PairReads hi lo is s (f s.blk) := by
  obtain ⟨u, hrun, hu⟩ := runAccesses_keeps hkeep (s.completeRead (hiByte (f s.blk)))
  rw [State.completeRead_blk] at hu
  refine ⟨_, u, _, _, _, hhi s, rfl, hrun, hlo u, rfl, ?_⟩
  rw [hu, bigEndian_hi_lo]

/-- Settles O58: the three registers in turn; CRC_INIT between the reads of a `crc` of 0x0000 makes
the pair 0x00FF, neither the old value nor the new one. -/
theorem twoByteReadsGiveTheValue : Obligations.TwoByteReadsGiveTheValue := by
  refine ⟨fun is s his => ?_, fun is s his => ⟨?_, ?_⟩, ?_⟩
  · exact pairReads_of_keeps (f := Block.crc) (fun _ => rfl) (fun _ => rfl)
      (fun i hi => crc_blockAfter_of_not_writesCrc (his i hi)) s
  · exact pairReads_of_keeps (f := fun b => b.outcome.crcExp) (fun _ => rfl) (fun _ => rfl)
      (fun i hi b => by rw [outcome_blockAfter_of_not_writesResults (his i hi)]) s
  · exact pairReads_of_keeps (f := fun b => b.outcome.crcGot) (fun _ => rfl) (fun _ => rfl)
      (fun i hi b => by rw [outcome_blockAfter_of_not_writesResults (his i hi)]) s
  · exact ⟨{ State.reset with blk := Block.reset.setCrc 0x0000#16 }, _, _, _, _, _,
      rfl, rfl, rfl, rfl, rfl, by decide, by decide⟩

/-! ### The result registers (spec/42_frame_rx.md §5) -/

/-- Settles O47: each word decodes to its read, and each read completes with its field. -/
theorem resultReadsReturnTheRegisters : Obligations.ResultReadsReturnTheRegisters :=
  ⟨by decide, fun _ => ⟨rfl, rfl, rfl, rfl, rfl, rfl, rfl, rfl, rfl, rfl⟩⟩

end Sys2Proof.Machine
end

section
/-! PROOFS. The decoder and the encoder undo each other (spec/30_encoding.md R80, R87, R88). -/

namespace Sys2Proof

/-! ### The round trip from the instruction (spec/30_encoding.md R80, R87) -/

/-- Settles O1: each instruction has its own round-trip law. -/
theorem decodeOfEncodeIsTheInstruction : Obligations.DecodeOfEncodeIsTheInstruction := by
  intro i
  cases i with
  | nop => exact Laws.RoundTrip.nop
  | crcInit => exact Laws.RoundTrip.crcInit
  | rxClear => exact Laws.RoundTrip.rxClear
  | txStart => exact Laws.RoundTrip.txStart
  | txSeal => exact Laws.RoundTrip.txSeal
  | decode => exact Laws.RoundTrip.decode
  | check => exact Laws.RoundTrip.check
  | errClear => exact Laws.RoundTrip.errClear
  | softReset => exact Laws.RoundTrip.softReset
  | wrCrcIn b => exact Laws.RoundTrip.wrCrcIn b
  | wrReqAddr a => exact Laws.RoundTrip.wrReqAddr a
  | wrReqFc f => exact Laws.RoundTrip.wrReqFc f
  | wrRxIn b => exact Laws.RoundTrip.wrRxIn b
  | wrTxIn b => exact Laws.RoundTrip.wrTxIn b
  | cmdRsvd op => exact Laws.RoundTrip.cmdRsvd op
  | wrIgnored a d => exact Laws.RoundTrip.wrIgnored a d
  | rdStatus => exact Laws.RoundTrip.rdStatus
  | rdCrcHi => exact Laws.RoundTrip.rdCrcHi
  | rdCrcLo => exact Laws.RoundTrip.rdCrcLo
  | rdReqAddr => exact Laws.RoundTrip.rdReqAddr
  | rdReqFc => exact Laws.RoundTrip.rdReqFc
  | rdExpLen => exact Laws.RoundTrip.rdExpLen
  | rdRxLen => exact Laws.RoundTrip.rdRxLen
  | rdTxLen => exact Laws.RoundTrip.rdTxLen
  | rdResult => exact Laws.RoundTrip.rdResult
  | rdRspAddr => exact Laws.RoundTrip.rdRspAddr
  | rdRspFc => exact Laws.RoundTrip.rdRspFc
  | rdDevErr => exact Laws.RoundTrip.rdDevErr
  | rdDevClass => exact Laws.RoundTrip.rdDevClass
  | rdCrcExpHi => exact Laws.RoundTrip.rdCrcExpHi
  | rdCrcExpLo => exact Laws.RoundTrip.rdCrcExpLo
  | rdCrcGotHi => exact Laws.RoundTrip.rdCrcGotHi
  | rdCrcGotLo => exact Laws.RoundTrip.rdCrcGotLo
  | rdPayLen => exact Laws.RoundTrip.rdPayLen
  | rdRxWin i => exact Laws.RoundTrip.rdRxWin i
  | rdTxWin i => exact Laws.RoundTrip.rdTxWin i
  | rdZero a => exact Laws.RoundTrip.rdZero a

/-! ### The fields of masked words (spec/30_encoding.md R80) -/

/-- Words with the same fields are the same word. -/
theorem eq_of_fields {w v : AccessWord} (hrw : rwField w = rwField v)
    (haddr : addrField w = addrField v) (hdata : dataField w = dataField v) : w = v := by
  rw [← accessWord_fields w, ← accessWord_fields v, hrw, haddr, hdata]

@[simp] theorem rwField_and (w m : AccessWord) : rwField (w &&& m) = (rwField w && rwField m) :=
  BitVec.getLsbD_and

@[simp] theorem addrField_and (w m : AccessWord) :
    addrField (w &&& m) = addrField w &&& addrField m :=
  BitVec.extractLsb'_and ..

@[simp] theorem dataField_and (w m : AccessWord) :
    dataField (w &&& m) = dataField w &&& dataField m :=
  BitVec.extractLsb'_and ..

/-- The mask of RW and ADDR clears DATA. -/
theorem and_addressMask (w : AccessWord) :
    w &&& 0x7FF00#19 = accessWord (rwField w) (addrField w) 0x00#8 := by
  have hrw : rwField 0x7FF00#19 = true := by decide
  have haddr : addrField 0x7FF00#19 = BitVec.allOnes 10 := by decide
  have hdata : dataField 0x7FF00#19 = 0#8 := by decide
  refine eq_of_fields ?_ ?_ ?_
  · simp [hrw]
  · rw [addrField_and, haddr, BitVec.and_allOnes, addrField_accessWord]
  · simp [hdata]

/-- The mask of RW clears ADDR and DATA. -/
theorem and_rwMask (w : AccessWord) :
    w &&& 0x40000#19 = accessWord (rwField w) 0x000#10 0x00#8 := by
  have hrw : rwField 0x40000#19 = true := by decide
  have haddr : addrField 0x40000#19 = 0#10 := by decide
  have hdata : dataField 0x40000#19 = 0#8 := by decide
  refine eq_of_fields ?_ ?_ ?_
  · simp [hrw]
  · simp [haddr]
  · simp [hdata]

/-! ### The round trip from the word (spec/30_encoding.md R80, R87, R88) -/

/-- The instruction is well-formed and `w` is its word. -/
def NamedBy (i : Instr) (w : AccessWord) : Prop := i.wf = true ∧ encode i = w

/-- Where the decoder tests a condition, the word names the instruction of either branch. -/
theorem namedBy_ite {c : Prop} [Decidable c] {i j : Instr} {w : AccessWord}
    (hi : c → NamedBy i w) (hj : ¬c → NamedBy j w) : NamedBy (if c then i else j) w := by
  split
  · exact hi ‹c›
  · exact hj ‹¬c›

theorem decodeCommand_namedBy (op : Byte) : NamedBy (decodeCommand op) (encodeCommand op) := by
  unfold decodeCommand
  iterate 9 refine namedBy_ite (by rintro rfl; exact ⟨rfl, rfl⟩) fun _ => ?_
  have hreserved : 0x09#8 ≤ op := by bv_omega
  exact ⟨decide_eq_true hreserved, rfl⟩

theorem decodeWrite_namedBy (a : PortAddr) (d : Byte) :
    NamedBy (decodeWrite a d) (accessWord true a d) := by
  unfold decodeWrite
  refine namedBy_ite (by rintro rfl; exact decodeCommand_namedBy d) fun _ => ?_
  iterate 5 refine namedBy_ite (by rintro rfl; exact ⟨rfl, rfl⟩) fun _ => ?_
  have hignored : isWritable a = false := by simp [isWritable, *]
  exact ⟨by simp [Instr.wf, hignored], rfl⟩

theorem rxWin_windowIndex {a : PortAddr} (h : 0x100#10 ≤ a ∧ a ≤ 0x1FF#10) :
    0x100#10 + (windowIndex a).setWidth 10 = a := by
  have hrange := Machine.toNat_rxWin h
  have hindex := Machine.windowIndex_toNat a
  bv_omega

theorem txWin_windowIndex {a : PortAddr} (h : 0x200#10 ≤ a ∧ a ≤ 0x2FF#10) :
    0x200#10 + (windowIndex a).setWidth 10 = a := by
  have hrange := Machine.toNat_txWin h
  have hindex := Machine.windowIndex_toNat a
  bv_omega

theorem decodeRead_namedBy (a : PortAddr) : NamedBy (decodeRead a) (encodeRead a) := by
  unfold decodeRead
  iterate 18 refine namedBy_ite (by rintro rfl; exact ⟨rfl, rfl⟩) fun _ => ?_
  refine namedBy_ite (fun h => ⟨rfl, congrArg encodeRead (rxWin_windowIndex h)⟩) fun _ => ?_
  refine namedBy_ite (fun h => ⟨rfl, congrArg encodeRead (txWin_windowIndex h)⟩) fun _ => ?_
  have hzero : readsAsZero a = true := by
    simp only [readsAsZero, Bool.or_eq_true, Bool.and_eq_true, beq_iff_eq, decide_eq_true_eq]
    bv_omega
  exact ⟨hzero, rfl⟩

/-- Settles O2: a write word is assembled from its fields, and a read word without its DATA is the
word of a read of its address. -/
theorem encodeOfDecodeIsTheCanonicalWord : Obligations.EncodeOfDecodeIsTheCanonicalWord := by
  intro w
  change NamedBy (decode w) (if rwField w then w else w &&& 0x7FF00#19)
  have hfields := accessWord_fields w
  rw [and_addressMask, decode]
  split
  next hwrite =>
    rw [hwrite] at hfields
    have hnamed := decodeWrite_namedBy (addrField w) (dataField w)
    rwa [hfields] at hnamed
  next hread =>
    rw [Bool.not_eq_true] at hread
    rw [hread]
    exact decodeRead_namedBy (addrField w)

end Sys2Proof
end

section
/-! PROOFS. The opcode table and the decoding procedure agree on every word
(spec/30_encoding.md R87, R92). -/

namespace Sys2Proof

/-! ### The matching row of lowest priority number -/

theorem OpRow.fits_iff (r : OpRow) (w : AccessWord) : r.fits w = true ↔ w &&& r.mask = r.pat :=
  beq_iff_eq

/-- The row fits the word, and no row of the list that fits it has a lower priority number. -/
structure OpRow.Leads (r : OpRow) (w : AccessWord) (rows : List OpRow) : Prop where
  mem : r ∈ rows
  fits : r.fits w = true
  least : ∀ q ∈ rows, q.fits w = true → r.priority ≤ q.priority

/-- `bestRow` answers none only when no row fits, and else a row that leads the list. -/
theorem bestRow_cases (w : AccessWord) (rows : List OpRow) :
    (bestRow w rows = none ∧ ∀ q ∈ rows, q.fits w = false) ∨
      ∃ r, bestRow w rows = some r ∧ r.Leads w rows := by
  induction rows with
  | nil => exact .inl ⟨rfl, nofun⟩
  | cons r rs ih =>
    obtain ⟨hnone, hrs⟩ | ⟨b, hb, hmem, hfits, hleast⟩ := ih
    · cases hr : r.fits w with
      | false => exact .inl ⟨by simp [bestRow, hnone, hr], List.forall_mem_cons.mpr ⟨hr, hrs⟩⟩
      | true =>
        refine .inr ⟨r, by simp [bestRow, hnone, hr], List.mem_cons_self, hr, ?_⟩
        refine List.forall_mem_cons.mpr ⟨fun _ => le_rfl, fun q hq hqw => ?_⟩
        exact absurd hqw (by simp [hrs q hq])
    · by_cases hr : r.fits w = true ∧ r.priority ≤ b.priority
      · obtain ⟨hrw, hle⟩ := hr
        refine .inr ⟨r, by simp [bestRow, hb, hrw, hle], List.mem_cons_self, hrw, ?_⟩
        exact List.forall_mem_cons.mpr
          ⟨fun _ => le_rfl, fun q hq hqw => hle.trans (hleast q hq hqw)⟩
      · refine .inr ⟨b, by simp [bestRow, hb, hr], List.mem_cons_of_mem r hmem, hfits, ?_⟩
        refine List.forall_mem_cons.mpr ⟨fun hrw => ?_, hleast⟩
        exact le_of_not_ge fun hle => hr ⟨hrw, hle⟩

/-! ### Each row decodes as the procedure does, unless a row before it matches -/

/-- A word that fits the row decodes to the row's instruction, or fits a row of lower priority
number. -/
def OpRow.Decodes (r : OpRow) : Prop :=
  ∀ w, r.fits w = true →
    r.instr w = decode w ∨ ∃ q ∈ opcodeTable, q.fits w = true ∧ q.priority < r.priority

/-- A row of one word, a command. -/
theorem OpRow.Decodes.of_word {r : OpRow} (hmask : r.mask = BitVec.allOnes 19)
    (hinstr : r.instr r.pat = decode r.pat) : r.Decodes := by
  intro w hw
  rw [r.fits_iff, hmask, BitVec.and_allOnes] at hw
  exact .inl (hw ▸ hinstr)

/-- RW and the masked ADDR of a word that fits a row are those of the row's pattern. -/
theorem OpRow.fields_of_fits {r : OpRow} {w : AccessWord} (hw : r.fits w = true)
    (hmask : rwField r.mask = true) :
    rwField w = rwField r.pat ∧ addrField w &&& addrField r.mask = addrField r.pat := by
  rw [r.fits_iff] at hw
  rw [← hw, rwField_and, hmask, Bool.and_true, addrField_and]
  exact ⟨rfl, rfl⟩

/-- The whole of ADDR is the pattern's where the mask keeps all of it. -/
theorem OpRow.address_of_fits {r : OpRow} {w : AccessWord} (hw : r.fits w = true)
    (hmask : r.mask = 0x7FF00#19) : rwField w = rwField r.pat ∧ addrField w = addrField r.pat := by
  have haddr : addrField 0x7FF00#19 = BitVec.allOnes 10 := by decide
  have hfields := OpRow.fields_of_fits hw (by rw [hmask]; decide)
  rwa [hmask, haddr, BitVec.and_allOnes] at hfields

theorem decode_of_write {w : AccessWord} (h : rwField w = true) :
    decode w = decodeWrite (addrField w) (dataField w) := if_pos h

theorem decode_of_read {w : AccessWord} (h : rwField w = false) :
    decode w = decodeRead (addrField w) := if_neg (by simp [h])

/-- A row of the writes to one address. -/
theorem OpRow.Decodes.of_write {name : String} {pat : AccessWord} {n : Nat} {f : Byte → Instr}
    (hpat : rwField pat = true) (hf : ∀ d, decodeWrite (addrField pat) d = f d) :
    OpRow.Decodes ⟨name, pat, 0x7FF00#19, n, fun w => f (dataField w)⟩ := by
  intro w hw
  obtain ⟨hrw, haddr⟩ := OpRow.address_of_fits hw rfl
  left
  rw [decode_of_write (hrw.trans hpat), haddr, hf]

/-- A row of the reads of one address. -/
theorem OpRow.Decodes.of_read {name : String} {pat : AccessWord} {n : Nat} {i : Instr}
    (hpat : rwField pat = false) (hi : decodeRead (addrField pat) = i) :
    OpRow.Decodes ⟨name, pat, 0x7FF00#19, n, fun _ => i⟩ := by
  intro w hw
  obtain ⟨hrw, haddr⟩ := OpRow.address_of_fits hw rfl
  left
  rw [decode_of_read (hrw.trans hpat), haddr, hi]

theorem windowIndex_addrField (w : AccessWord) : windowIndex (addrField w) = windowField w := by
  ext i hi
  have h : i < 10 := by omega
  simp [windowIndex, addrField, windowField, h]

/-- The two top bits of an address and its window index make the address. -/
theorem windowBase_add_windowIndex (a : PortAddr) :
    (a &&& 0x300#10) + (windowIndex a).setWidth 10 = a := by
  revert a; decide +kernel

/-- A row of the reads of one window, whose mask keeps RW and the two top bits of ADDR. -/
theorem OpRow.Decodes.of_window {name : String} {pat : AccessWord} {n : Nat} {f : Byte → Instr}
    (hpat : rwField pat = false)
    (hf : ∀ i : Byte, decodeRead (addrField pat + i.setWidth 10) = f i) :
    OpRow.Decodes ⟨name, pat, 0x70000#19, n, fun w => f (windowField w)⟩ := by
  intro w hw
  have hmaskRw : rwField 0x70000#19 = true := by decide
  have hmaskAddr : addrField 0x70000#19 = 0x300#10 := by decide
  obtain ⟨hrw, haddr⟩ := OpRow.fields_of_fits hw hmaskRw
  have hbase : addrField w &&& 0x300#10 = addrField pat := hmaskAddr ▸ haddr
  left
  rw [decode_of_read (hrw.trans hpat), ← windowBase_add_windowIndex (addrField w), hbase, hf,
    windowIndex_addrField]

/-! ### The catch-all rows give way to the rows before them (spec/30_encoding.md R87) -/

/-- The command word of an assigned opcode fits the row of its command. -/
theorem exists_row_of_assigned {op : Byte} (h : ¬ 0x09#8 ≤ op) :
    ∃ q ∈ opcodeTable, q.fits (encodeCommand op) = true ∧ q.priority < 2 := by
  revert op; decide +kernel

theorem cmdRsvd_decodes :
    OpRow.Decodes ⟨"CMD_RSVD", 0x40000#19, 0x7FF00#19, 2, fun w => .cmdRsvd (dataField w)⟩ := by
  intro w hw
  obtain ⟨hrw, haddr⟩ := OpRow.address_of_fits hw rfl
  have hword := accessWord_fields w
  rw [hrw, haddr] at hword
  by_cases hop : 0x09#8 ≤ dataField w
  · left
    rw [decode_of_write hrw, haddr]
    exact (decodeCommand_reserved _ hop).symm
  · right
    exact hword ▸ exists_row_of_assigned hop

/-- The mask of the row leaves DATA out. -/
theorem OpRow.fits_address {q : OpRow} (hmask : q.mask &&& 0x7FF00#19 = q.mask) (w : AccessWord) :
    q.fits (accessWord (rwField w) (addrField w) 0x00#8) = q.fits w := by
  rw [← and_addressMask, OpRow.fits, OpRow.fits, BitVec.and_assoc, BitVec.and_comm _ q.mask, hmask]

/-- A row of the list before the two rows of priority 3 fits the access, whatever its DATA. -/
def HasRow (rows : List OpRow) (rw : Bool) (a : PortAddr) : Prop :=
  ∃ q ∈ rows, q.mask &&& 0x7FF00#19 = q.mask ∧ q.fits (accessWord rw a 0x00#8) = true ∧
    q.priority < 3

theorem HasRow.exists_fits {rows : List OpRow} {w : AccessWord} (hrows : rows ⊆ opcodeTable)
    (h : HasRow rows (rwField w) (addrField w)) :
    ∃ q ∈ opcodeTable, q.fits w = true ∧ q.priority < 3 := by
  obtain ⟨q, hq, hmask, hfits, hprio⟩ := h
  exact ⟨q, hrows hq, q.fits_address hmask w ▸ hfits, hprio⟩

theorem hasRow_of_isWritable {a : PortAddr} (h : isWritable a = true) :
    HasRow writeRows true a := by
  simp only [isWritable, Bool.or_eq_true, beq_iff_eq] at h
  unfold HasRow
  obtain ((((rfl | rfl) | rfl) | rfl) | rfl) | rfl := h <;> decide

theorem hasRow_of_register {a : PortAddr} (hle : a ≤ 0x015#10) (h : readsAsZero a = false) :
    HasRow readRows false a := by
  unfold HasRow; revert a; decide +kernel

/-- The rows of the windows follow the eighteen rows of the registers. -/
theorem hasRow_of_window {a : PortAddr} (hle : 0x100#10 ≤ a) (hlt : a < 0x300#10) :
    HasRow (readRows.drop 18) false a := by
  unfold HasRow; revert a; decide +kernel

theorem exists_row_of_not_readsAsZero {w : AccessWord} (hrw : rwField w = false)
    (h : readsAsZero (addrField w) = false) :
    ∃ q ∈ opcodeTable, q.fits w = true ∧ q.priority < 3 := by
  by_cases hle : addrField w ≤ 0x015#10
  · exact (hrw ▸ hasRow_of_register hle h).exists_fits (List.subset_append_right ..)
  · obtain ⟨hlow, hhigh⟩ : 0x100#10 ≤ addrField w ∧ addrField w < 0x300#10 := by
      simp only [readsAsZero, Bool.or_eq_false_iff, Bool.and_eq_false_iff,
        decide_eq_false_iff_not] at h
      bv_omega
    exact (hrw ▸ hasRow_of_window hlow hhigh).exists_fits
      fun _ hq => List.mem_append_right _ (List.mem_of_mem_drop hq)

theorem wrIgnored_decodes :
    OpRow.Decodes ⟨"WR_IGNORED", 0x40000#19, 0x40000#19, 3,
      fun w => .wrIgnored (addrField w) (dataField w)⟩ := by
  intro w hw
  have hrw : rwField w = true := (OpRow.fields_of_fits hw rfl).1
  cases ha : isWritable (addrField w) with
  | false => exact .inl (by rw [decode_of_write hrw, decodeWrite_ignored _ _ ha])
  | true => exact .inr ((hrw ▸ hasRow_of_isWritable ha).exists_fits (List.subset_append_left ..))

theorem rdZero_decodes :
    OpRow.Decodes ⟨"RD_ZERO", 0x00000#19, 0x40000#19, 3, fun w => .rdZero (addrField w)⟩ := by
  intro w hw
  have hrw : rwField w = false := (OpRow.fields_of_fits hw rfl).1
  cases ha : readsAsZero (addrField w) with
  | true => exact .inl (by rw [decode_of_read hrw, decodeRead_zero _ ha])
  | false => exact .inr (exists_row_of_not_readsAsZero hrw ha)

/-! ### The whole table -/

theorem decodes_of_mem_writeRows : ∀ r ∈ writeRows, r.Decodes := by
  simp only [writeRows, List.cons_append, List.nil_append, List.forall_mem_cons]
  iterate 9 refine ⟨.of_word rfl rfl, ?_⟩
  iterate 5 refine ⟨.of_write rfl fun _ => rfl, ?_⟩
  exact ⟨cmdRsvd_decodes, wrIgnored_decodes, nofun⟩

theorem decodes_of_mem_readRows : ∀ r ∈ readRows, r.Decodes := by
  simp only [readRows, List.cons_append, List.nil_append, List.forall_mem_cons]
  iterate 18 refine ⟨.of_read rfl rfl, ?_⟩
  exact ⟨.of_window rfl decodeRead_rxWin, .of_window rfl decodeRead_txWin, rdZero_decodes,
    nofun⟩

theorem decodes_of_mem_opcodeTable {r : OpRow} (h : r ∈ opcodeTable) : r.Decodes :=
  (List.mem_append.mp h).elim (decodes_of_mem_writeRows r) (decodes_of_mem_readRows r)

/-- Two rows of one priority number are the same row or no word fits both: their patterns differ in
a bit that both masks keep. -/
theorem rows_of_same_priority : ∀ q ∈ opcodeTable, ∀ r ∈ opcodeTable, q.priority = r.priority →
    (q.pat = r.pat ∧ q.mask = r.mask) ∨ q.pat &&& r.mask ≠ r.pat &&& q.mask := by
  decide +kernel

theorem same_row_of_fits {q r : OpRow} {w : AccessWord} (hq : q ∈ opcodeTable)
    (hr : r ∈ opcodeTable) (hqw : q.fits w = true) (hrw : r.fits w = true)
    (hprio : q.priority = r.priority) : q.pat = r.pat ∧ q.mask = r.mask := by
  rw [OpRow.fits_iff] at hqw hrw
  refine (rows_of_same_priority q hq r hr hprio).resolve_right fun hne => hne ?_
  rw [← hqw, ← hrw, BitVec.and_assoc, BitVec.and_assoc, BitVec.and_comm q.mask]

/-- WR_IGNORED and RD_ZERO fix RW only, so every word fits one of them. -/
theorem exists_row_fits (w : AccessWord) : ∃ r ∈ opcodeTable, r.fits w = true := by
  have hrows : ∀ rw, ∃ r ∈ opcodeTable, r.mask = 0x40000#19 ∧
      accessWord rw 0x000#10 0x00#8 = r.pat := by decide +kernel
  obtain ⟨r, hr, hmask, hpat⟩ := hrows (rwField w)
  exact ⟨r, hr, by rw [r.fits_iff, hmask, and_rwMask, hpat]⟩

/-- The best row of the table is the row of the decoder's instruction. -/
theorem bestRow_opcodeTable (w : AccessWord) :
    ∃ r, bestRow w opcodeTable = some r ∧ r.Leads w opcodeTable ∧ r.instr w = decode w := by
  obtain ⟨hnone, hnofit⟩ | ⟨r, hbest, hleads⟩ := bestRow_cases w opcodeTable
  · obtain ⟨r, hr, hfits⟩ := exists_row_fits w
    exact absurd hfits (by simp [hnofit r hr])
  · refine ⟨r, hbest, hleads, ?_⟩
    refine (decodes_of_mem_opcodeTable hleads.mem w hleads.fits).resolve_right ?_
    rintro ⟨q, hq, hqw, hlt⟩
    exact absurd (hleads.least q hq hqw) (by omega)

/-- Settles O3: the row of lowest priority number is the decoder's, and a row that fits the word
with the same number is that row. The priorities of the catch-all rows are read off the table. -/
theorem opcodeTableDecodesAsTheProcedure : Obligations.OpcodeTableDecodesAsTheProcedure := by
  refine ⟨fun w => ?_, by decide +kernel⟩
  obtain ⟨r, hbest, hleads, hinstr⟩ := bestRow_opcodeTable w
  refine ⟨by rw [decodeByTable, hbest, Option.map_some, hinstr],
    r, hleads.mem, (r.fits_iff w).mp hleads.fits, hinstr, fun q hq hqw => ?_⟩
  rw [← q.fits_iff] at hqw
  obtain hlt | heq := (hleads.least q hq hqw).lt_or_eq
  · exact .inr hlt
  · exact .inl (same_row_of_fits hq hleads.mem hqw hleads.fits heq.symm)

end Sys2Proof
end

section
/-! PROOFS. Words written out, and the assembler's lines and pseudo-instructions
(spec/30_encoding.md R81, R90, R91; spec/95_test_vectors.md §2.6). -/

namespace Sys2Proof.Machine

/-! ### Words written out -/

theorem decodeNat_of_le {n : Nat} (h : 2 ^ 19 ≤ n) : decodeNat n = .error .notAnAccessWord := by
  rw [decodeNat, accessWordOf, if_neg (Nat.not_lt.mpr h)]

/-- Settles O4: the words one by one, and every number past the last word. -/
theorem writtenOutWordsDecode : Obligations.WrittenOutWordsDecode :=
  ⟨by decide, by decide, by decide, fun _ => decodeNat_of_le⟩

/-! ### Lines and pseudo-instructions -/

theorem encodeRead_eq (a : PortAddr) : encodeRead a = a.setWidth 19 <<< 8 := by
  rw [encodeRead, ← readWord_eq, BitVec.setWidth_zero, BitVec.or_zero]

/-- The number of a window read: no carry leaves the ten bits of the address. -/
theorem encodeRead_window {base : PortAddr} (h : base ≤ 0x200#10) (i : Byte) :
    encodeRead (base + i.setWidth 10) = (base.setWidth 19 + i.setWidth 19) <<< 8 := by
  have hcarry : (base + i.setWidth 10).setWidth 19 = base.setWidth 19 + i.setWidth 19 := by
    have hi := i.isLt
    bv_omega
  rw [encodeRead_eq, hcarry]

theorem decode_wr_word (r : Reg) (v : Byte) :
    Sys2Proof.decode (AsmLine.wr r v).word = decodeWrite r.addr v := decode_accessWord true r.addr v

/-- A register written byte by byte is one write access per byte. -/
theorem decode_words_map_wr {r : Reg} {f : Byte → Instr} (hf : ∀ v, decodeWrite r.addr v = f v)
    (bs : List Byte) :
    (bs.map (AsmLine.wr r)).map (fun l => Sys2Proof.decode l.word) = bs.map f := by
  rw [List.map_map]
  exact List.map_congr_left fun v _ => (decode_wr_word r v).trans (hf v)

theorem accesses_crcFeed (bs : List Byte) : (Pseudo.crcFeed bs).accesses = bs.map .wrCrcIn :=
  decode_words_map_wr (fun _ => rfl) bs

theorem accesses_rxPush (bs : List Byte) : (Pseudo.rxPush bs).accesses = bs.map .wrRxIn :=
  decode_words_map_wr (fun _ => rfl) bs

theorem accesses_txPush (bs : List Byte) : (Pseudo.txPush bs).accesses = bs.map .wrTxIn :=
  decode_words_map_wr (fun _ => rfl) bs

theorem accesses_request (a f : Byte) :
    (Pseudo.request a f).accesses = [.wrReqAddr a, .wrReqFc f] := by
  simp only [Pseudo.accesses, Pseudo.expand, List.map_cons, List.map_nil, decode_wr_word]
  rfl

/-- ENCODE is a request and TX_START, the payload's pushes, and TX_SEAL. -/
theorem accesses_encode (a f : Byte) (p : List Byte) : (Pseudo.encode a f p).accesses =
    [Instr.wrReqAddr a, .wrReqFc f, .txStart] ++ p.map Instr.wrTxIn ++ [Instr.txSeal] := by
  have hpayload := decode_words_map_wr (r := .txIn) (f := .wrTxIn) (fun _ => rfl) p
  simp only [Pseudo.accesses, Pseudo.expand, List.map_append, hpayload, List.map_cons,
    List.map_nil, decode_wr_word]
  rfl

/-- Settles O5: the words of the lines by the number of an access word, and the accesses of each
pseudo-instruction by decoding its lines. -/
theorem assemblerStandsForItsAccesses : Obligations.AssemblerStandsForItsAccesses := by
  have hrx : (0x100#10).setWidth 19 = 0x100#19 := by decide
  have htx : (0x200#10).setWidth 19 = 0x200#19 := by decide
  exact ⟨fun r v => (writeWord_eq r.addr v).symm, fun r => encodeRead_eq r.addr,
    fun i => hrx ▸ encodeRead_window (by decide) i, fun i => htx ▸ encodeRead_window (by decide) i,
    fun a v => (writeWord_eq a v).symm, encodeRead_eq, by decide, accesses_crcFeed,
    accesses_rxPush, accesses_txPush, by decide, accesses_request, accesses_encode⟩

end Sys2Proof.Machine
end

section
/-! PROOFS. The CRC engine: its step and its fold, its four accesses, the accumulator over a run,
the frames that verify, and the detection of a changed byte (spec/40_crc.md R100 to R108;
spec/42_frame_rx.md R181). -/

namespace Sys2Proof.Machine

/-! ### The step (spec/40_crc.md R101) -/

theorem crcShifts_eq_iterate (n : Nat) : crcShifts n = crcShift^[n] := by
  induction n with
  | zero => rfl
  | succ n ih => funext r; exact congrFun ih (crcShift r)

@[simp] theorem hiByte_xor (x y : Half) : hiByte (x ^^^ y) = hiByte x ^^^ hiByte y :=
  BitVec.extractLsb'_xor

@[simp] theorem loByte_xor (x y : Half) : loByte (x ^^^ y) = loByte x ^^^ loByte y :=
  BitVec.extractLsb'_xor

@[simp] theorem hiByte_zext16 (b : Byte) : hiByte (zext16 b) = 0#8 := by
  ext i hi
  simp [hiByte, zext16]

@[simp] theorem loByte_zext16 (b : Byte) : loByte (zext16 b) = b := by
  ext i hi
  have : i < 16 := by omega
  simp [loByte, zext16, hi, this]

/-- Settles O18: the model's iteration is `Nat.iterate`, an XORed byte meets the low byte only, and
the two cross-checks are computed. -/
theorem crcStepShiftsEightTimes : Obligations.CrcStepShiftsEightTimes := by
  refine ⟨fun r b => congrFun (crcShifts_eq_iterate 8) (r ^^^ zext16 b), fun r b => ⟨?_, ?_⟩,
    by decide, by decide +kernel⟩
  · change hiByte (r ^^^ zext16 b) = hiByte r
    rw [hiByte_xor, hiByte_zext16, BitVec.xor_zero]
  · change loByte (r ^^^ zext16 b) = loByte r ^^^ b
    rw [loByte_xor, loByte_zext16]

/-! ### The step loses nothing (spec/40_crc.md R101) -/

/-- One iteration moves bit 0 to bit 15: the polynomial has bit 15 set, and the shift clears it. -/
theorem getLsbD_crcShift_15 (r : Half) : (crcShift r).getLsbD 15 = r.getLsbD 0 := by
  have hclear : (r >>> 1).getLsbD 15 = false := by simp
  have hpoly : Config.crcPoly.getLsbD 15 = true := by decide
  unfold crcShift
  split
  next hlow => rw [BitVec.getLsbD_xor, hclear, hpoly, hlow, Bool.false_xor]
  next hlow => rw [hclear, Bool.eq_false_iff.mpr hlow]

/-- Bit 15 says whether the polynomial was XORed in, and the shift keeps the other bits. -/
theorem crcShift_injective : Function.Injective crcShift := by
  intro r r' h
  have hlow : r.getLsbD 0 = r'.getLsbD 0 := by
    rw [← getLsbD_crcShift_15, ← getLsbD_crcShift_15, h]
  have hshift : r >>> 1 = r' >>> 1 := by
    unfold crcShift at h
    rw [hlow] at h
    split at h
    · exact (BitVec.xor_left_inj Config.crcPoly).mp h
    · exact h
  refine BitVec.eq_of_getLsbD_eq fun i _ => ?_
  cases i with
  | zero => exact hlow
  | succ i =>
    have hbit := congrArg (BitVec.getLsbD · i) hshift
    simpa [Nat.add_comm] using hbit

theorem crcShifts_injective (n : Nat) : Function.Injective (crcShifts n) := by
  rw [crcShifts_eq_iterate]
  exact crcShift_injective.iterate n

theorem zext16_injective : Function.Injective zext16 :=
  Function.LeftInverse.injective loByte_zext16

theorem crcStep_injective_register (b : Byte) : Function.Injective (crcStep · b) :=
  fun _ _ h => (BitVec.xor_left_inj (zext16 b)).mp (crcShifts_injective 8 h)

theorem crcStep_injective_byte (r : Half) : Function.Injective (crcStep r) :=
  fun _ _ h => zext16_injective ((BitVec.xor_right_inj r).mp (crcShifts_injective 8 h))

/-- Settles O20: the XOR and each of the eight iterations are injective. -/
theorem crcStepLosesNothing : Obligations.CrcStepLosesNothing :=
  ⟨fun b _ _ h => crcStep_injective_register b h, fun r _ _ h => crcStep_injective_byte r h⟩

/-! ### The fold (spec/40_crc.md R100) -/

theorem crcFold_eq_foldl (r : Half) (bs : List Byte) : crcFold r bs = bs.foldl crcStep r := by
  induction bs generalizing r with
  | nil => rfl
  | cons b bs ih => exact ih (crcStep r b)

/-- Settles O19: the fold over a concatenation. -/
theorem crcFoldsFromTheFirstByte : Obligations.CrcFoldsFromTheFirstByte :=
  ⟨rfl, fun bs b => crcFold_append Config.crcInit bs [b]⟩

theorem crcFold_injective_register (bs : List Byte) : Function.Injective (crcFold · bs) := by
  induction bs with
  | nil => exact Function.injective_id
  | cons b bs ih => exact ih.comp (crcStep_injective_register b)

/-- A byte written over another of a sequence leaves the CRC as it was only where it is the same
byte. -/
theorem byteAt_eq_of_crcFold_set {bs : List Byte} {j : Nat} {v : Byte} {r : Half}
    (hj : j < bs.length) (h : crcFold r (bs.set j v) = crcFold r bs) : byteAt bs j = v := by
  induction bs generalizing r j with
  | nil => cases hj
  | cons b bs ih =>
    cases j with
    | zero => exact (crcStep_injective_byte r (crcFold_injective_register bs h)).symm
    | succ j => exact ih (Nat.lt_of_succ_lt_succ hj) h

/-! ### The four accesses (spec/40_crc.md R103 to R106) -/

/-- Settles O21: the word is CRC_INIT's, and its arm of `exec` writes `crc` alone. -/
theorem crcInitLoadsTheInitialValue : Obligations.CrcInitLoadsTheInitialValue :=
  ⟨by decide, fun _ => rfl⟩

theorem decode_writeWord (a : PortAddr) (d : Byte) :
    Sys2Proof.decode (0x40000#19 ||| a.setWidth 19 <<< 8 ||| d.setWidth 19) = decodeWrite a d := by
  rw [writeWord_eq]
  exact decode_accessWord true a d

theorem decode_readWord (a : PortAddr) (d : Byte) :
    Sys2Proof.decode (a.setWidth 19 <<< 8 ||| d.setWidth 19) = decodeRead a := by
  rw [readWord_eq]
  exact decode_accessWord false a d

/-- Settles O22: the word is the write of its byte to CRC_IN. -/
theorem wrCrcInStepsTheAccumulator : Obligations.WrCrcInStepsTheAccumulator :=
  ⟨decode_writeWord 0x002#10, fun _ _ => rfl, by decide +kernel⟩

/-- Settles O23: whatever DATA holds, the words are the reads of CRC_HI and of CRC_LO. -/
theorem crcReadsReturnTheAccumulator : Obligations.CrcReadsReturnTheAccumulator :=
  ⟨fun d => ⟨decode_readWord 0x003#10 d, decode_readWord 0x004#10 d⟩, fun _ => ⟨rfl, rfl⟩⟩

/-! ### The accumulator over a run (spec/40_crc.md R107) -/

theorem fedBytes_cons (i : Instr) (is : List Instr) :
    fedBytes (i :: is) = fedBytes [i] ++ fedBytes is := by
  cases i <;> rfl

/-- An access other than CRC_INIT and SOFT_RESET folds the byte it feeds, if any, into `crc`. -/
theorem crc_blockAfter {i : Instr} (hinit : i ≠ .crcInit) (hreset : i ≠ .softReset) (b : Block) :
    (blockAfter i b).crc = crcFold b.crc (fedBytes [i]) := by
  cases i
  case crcInit => exact absurd rfl hinit
  case softReset => exact absurd rfl hreset
  case wrCrcIn x => rfl
  all_goals exact crc_blockAfter_of_not_writesCrc rfl b

/-- A run without CRC_INIT and SOFT_RESET folds the bytes it feeds into `crc`. -/
theorem crc_runAccesses {is : List Instr} (his : ∀ i ∈ is, i ≠ .crcInit ∧ i ≠ .softReset)
    (s : State) :
    ∃ t, runAccesses is s = .next t ∧ t.blk.crc = crcFold s.blk.crc (fedBytes is) := by
  induction is generalizing s with
  | nil => exact ⟨s, rfl, rfl⟩
  | cons i is ih =>
    rw [List.forall_mem_cons] at his
    obtain ⟨⟨hinit, hreset⟩, his⟩ := his
    obtain ⟨t, ht⟩ := exec_answers i s
    obtain ⟨hblk, _, _⟩ := exec_inversion ht
    obtain ⟨u, hu, hcrc⟩ := ih his t
    refine ⟨u, (runAccesses_cons is ht).trans hu, ?_⟩
    rw [hcrc, hblk, crc_blockAfter hinit hreset, ← crcFold_append, ← fedBytes_cons]

/-- Settles O24: the run after CRC_INIT folds from the initial value. -/
theorem accumulatorHoldsTheCrcOfTheFedBytes :
    Obligations.AccumulatorHoldsTheCrcOfTheFedBytes :=
  fun _ s his => crc_runAccesses his (s.completeWrite (s.blk.setCrc Config.crcInit))

/-! ### The frames that verify (spec/40_crc.md R108) -/

theorem crcTrailer_bigEndian (h l : Byte) : crcTrailer (bigEndian h l) = [h, l] := by
  rw [crcTrailer, hiByte_bigEndian, loByte_bigEndian]

theorem crcTrailer_injective : Function.Injective crcTrailer := by
  intro c c' h
  rw [crcTrailer, crcTrailer, List.cons.injEq, List.cons.injEq] at h
  obtain ⟨hhi, hlo, _⟩ := h
  rw [← bigEndian_hi_lo c, ← bigEndian_hi_lo c', hhi, hlo]

theorem exists_body_and_trailer {f : List Byte} (hf : 2 ≤ f.length) :
    ∃ d t : List Byte, f = d ++ t ∧ t.length = 2 :=
  ⟨_, _, (List.take_append_drop (f.length - 2) f).symm, by rw [List.length_drop]; omega⟩

/-- A body and two bytes verify exactly when the two bytes are the trailer of the body's CRC. -/
theorem verifies_append_iff (d : List Byte) {t : List Byte} (ht : t.length = 2) :
    recomputedCrc (d ++ t) = claimedCrc (d ++ t) ↔ t = crcTrailer (crc16 d) := by
  obtain ⟨h, l, rfl⟩ := List.length_eq_two.mp ht
  have hrecomputed : recomputedCrc (d ++ [h, l]) = crc16 d := by simp [recomputedCrc]
  have hclaimed : claimedCrc (d ++ [h, l]) = bigEndian h l := by simp [claimedCrc, byteAt]
  rw [hrecomputed, hclaimed, ← crcTrailer_bigEndian, crcTrailer_injective.eq_iff, eq_comm]

/-- Settles O25: both CRCs of a sealed body are the body's, and a frame is its body followed by the
two bytes that must be the trailer. -/
theorem crcRoundTrip : Obligations.CrcRoundTrip := by
  refine ⟨fun d => ⟨?_, ?_⟩, fun f hf => ?_⟩
  · rw [recomputedCrc_withTrailer, claimedCrc_withTrailer]
  · rw [claimedCrc_withTrailer]
    exact crcFold_eq_foldl Config.crcInit d
  · obtain ⟨d, t, rfl, ht⟩ := exists_body_and_trailer hf
    have hbody : (d ++ t).take ((d ++ t).length - 2) = d := by simp [ht]
    rw [verifies_append_iff d ht, hbody, withTrailer, List.append_cancel_left_eq]

/-! ### A changed byte is detected (spec/42_frame_rx.md R181) -/

theorem byteAt_set_self {buf : List Byte} {j : Nat} (hj : j < buf.length) (v : Byte) :
    byteAt (buf.set j v) j = v := by
  simp [byteAt, hj]

theorem byteAt_set_ne {i j : Nat} (h : j ≠ i) (buf : List Byte) (v : Byte) :
    byteAt (buf.set j v) i = byteAt buf i := by
  simp [byteAt, h]

theorem byteAt_append_left {d : List Byte} {j : Nat} (hj : j < d.length) (t : List Byte) :
    byteAt (d ++ t) j = byteAt d j :=
  List.getD_append d t 0x00#8 j hj

/-- A frame that verifies no longer does with one byte changed: a changed body has another CRC, and
a changed trailer claims another. -/
theorem not_verifies_set {g : List Byte} {j : Nat} {v : Byte} (hg : 2 ≤ g.length)
    (hcrc : recomputedCrc g = claimedCrc g) (hj : j < g.length) (hv : byteAt g j ≠ v) :
    recomputedCrc (g.set j v) ≠ claimedCrc (g.set j v) := by
  intro hcrc'
  obtain ⟨d, t, rfl, ht⟩ := exists_body_and_trailer hg
  have htrailer := (verifies_append_iff d ht).mp hcrc
  rcases Nat.lt_or_ge j d.length with hbody | htail
  · rw [List.set_append_left _ _ hbody, verifies_append_iff _ ht] at hcrc'
    have hsame : crc16 (d.set j v) = crc16 d := crcTrailer_injective (hcrc'.symm.trans htrailer)
    rw [byteAt_append_left hbody] at hv
    exact hv (byteAt_eq_of_crcFold_set hbody hsame)
  · have hset := List.set_append_right (s := d) (t := t) j v htail
    rw [hset, verifies_append_iff d (by rw [List.length_set, ht])] at hcrc'
    apply hv
    rw [← byteAt_set_self hj v, hset, hcrc', ← htrailer]

theorem decodeFrame_ok {g : List Byte} (h : (decodeFrame g).result = resOk) :
    5 ≤ g.length ∧ byteAt g 1 ≤ 127#8 ∧ recomputedCrc g = claimedCrc g := by
  rcases decodeFrame_cases g with ⟨_, e⟩ | ⟨_, _, e⟩ | ⟨_, _, _, e⟩ | ⟨hlen, hfc, hcrc, _⟩
  · rw [e] at h; exact absurd h (by decide : resTooShort ≠ resOk)
  · rw [e] at h; exact absurd h (by decide : resDeviceError ≠ resOk)
  · rw [e] at h; exact absurd h (by decide : resBadCrc ≠ resOk)
  · exact ⟨hlen, hfc, hcrc⟩

/-- Where byte 1 is no error code, one changed byte makes it one only at index 1. -/
theorem errorFc_set_iff {g : List Byte} {j : Nat} {v : Byte} (hfc : byteAt g 1 ≤ 127#8)
    (hj : j < g.length) : 127#8 < byteAt (g.set j v) 1 ↔ j = 1 ∧ 127#8 < v := by
  by_cases h : j = 1
  · subst h
    simp [byteAt_set_self hj]
  · simp [byteAt_set_ne h, h, BitVec.not_lt.mpr hfc]

/-- Settles O46: the changed frame is as long as before, it is an error reply exactly by its byte 1,
and it does not verify. -/
theorem singleByteChangeIsDetected : Obligations.SingleByteChangeIsDetected := by
  intro s g j v hok hj hv hrx
  obtain ⟨hlen, hfc, hcrc⟩ := decodeFrame_ok hok
  refine ⟨_, rfl, ?_⟩
  rw [State.completeWrite_blk, Block.setOutcome_result, hrx]
  have hdev := errorFc_set_iff (v := v) hfc hj
  rcases decodeFrame_cases (g.set j v) with ⟨hshort, _⟩ | ⟨_, herr, e⟩ | ⟨_, herr, _, e⟩ |
    ⟨_, _, hcrc', _⟩
  · rw [List.length_set] at hshort
    omega
  · rw [e, if_pos (hdev.mp herr)]
    rfl
  · rw [e, if_neg (mt hdev.mpr (BitVec.not_lt.mpr herr))]
    rfl
  · exact absurd hcrc' (not_verifies_set (by omega) hcrc hj hv)

end Sys2Proof.Machine
end

section
/-! PROOFS. The request side: the frame layout, the reply-length table, the request registers, the
assembly of a frame, and the invariants of `tx` and of the overflow flags that every step keeps
(spec/41_frame_tx.md); and the frame that is encoded, pushed and decoded (spec/42_frame_rx.md
R180). -/

namespace Sys2Proof.Machine

/-! ### A sealed frame ends in its CRC (spec/41_frame_tx.md R131, R132) -/

theorem sealedFrameHasTrailer_of_unsealed {b : Block} (h : b.txSealed = false) :
    SealedFrameHasTrailer b :=
  fun hs => absurd (h.symm.trans hs) (by decide)

/-- The bytes before the last two of a body with its trailer are the body. -/
theorem withTrailer_eq_of_take (body : List Byte) :
    withTrailer body = withTrailer ((withTrailer body).take ((withTrailer body).length - 2)) := by
  rw [withTrailer_length, Nat.add_sub_cancel, withTrailer_take]

theorem sealedFrameHasTrailer_pushRx {b : Block} (x : Byte) (h : SealedFrameHasTrailer b) :
    SealedFrameHasTrailer (b.pushRx x) := by
  rcases b.pushRx_cases x with ⟨_, e⟩ | ⟨_, e⟩ <;> rw [e] <;> exact h

/-- A byte is appended to an unsealed frame only. -/
theorem sealedFrameHasTrailer_pushTx {b : Block} (x : Byte) (h : SealedFrameHasTrailer b) :
    SealedFrameHasTrailer (b.pushTx x) := by
  rcases b.pushTx_cases x with ⟨_, e⟩ | ⟨_, _, e⟩ | ⟨hs, _, e⟩ <;> rw [e]
  · exact h
  · exact h
  · exact sealedFrameHasTrailer_of_unsealed hs

theorem sealedFrameHasTrailer_sealTx {b : Block} (h : SealedFrameHasTrailer b) :
    SealedFrameHasTrailer b.sealTx := by
  rcases b.sealTx_cases with ⟨_, e⟩ | ⟨_, _, e⟩ | ⟨_, _, e⟩ <;> rw [e]
  · exact h
  · exact h
  · exact fun _ => withTrailer_eq_of_take b.tx

theorem sealedFrameHasTrailer_blockAfter (i : Instr) {b : Block} (h : SealedFrameHasTrailer b) :
    SealedFrameHasTrailer (blockAfter i b) := by
  cases i
  case txStart => exact sealedFrameHasTrailer_of_unsealed rfl
  case txSeal => exact sealedFrameHasTrailer_sealTx h
  case softReset => exact sealedFrameHasTrailer_of_unsealed rfl
  case wrRxIn x => exact sealedFrameHasTrailer_pushRx x h
  case wrTxIn x => exact sealedFrameHasTrailer_pushTx x h
  all_goals exact h

/-- Settles O14: nothing is sealed at reset, and every access keeps the trailer. -/
theorem stepKeepsTheSealedTrailer : Obligations.StepKeepsTheSealedTrailer :=
  fun _ _ hs h => step_keeps (sealedFrameHasTrailer_of_unsealed rfl)
    (fun i _ => sealedFrameHasTrailer_blockAfter i) hs h

/-! ### An overflow flag means a full buffer (spec/42_frame_rx.md R151, spec/41_frame_tx.md R131) -/

theorem OverflowMeansFull.tx_length {b : Block} (h : OverflowMeansFull b)
    (hs : b.txSealed = false) (hovf : b.txOvf = true) : b.tx.length = Config.frameMax - 2 := by
  obtain ⟨_, htx⟩ := h
  simpa [hs] using htx hovf

/-- A byte is appended only while `rx` is not full, and then RX_OVF is down. -/
theorem overflowMeansFull_pushRx {b : Block} (x : Byte) (h : OverflowMeansFull b) :
    OverflowMeansFull (b.pushRx x) := by
  obtain ⟨hrx, htx⟩ := h
  rcases b.pushRx_cases x with ⟨hfull, e⟩ | ⟨hroom, e⟩ <;> rw [e]
  · exact ⟨fun _ => hfull, htx⟩
  · exact ⟨fun hovf => absurd (hrx hovf) hroom, htx⟩

/-- TX_OVF is raised where only the trailer's room is left, and is down where a byte is appended. -/
theorem overflowMeansFull_pushTx {b : Block} (x : Byte) (hfits : TrailerFits b)
    (h : OverflowMeansFull b) : OverflowMeansFull (b.pushTx x) := by
  have ⟨hrx, _⟩ := h
  rcases b.pushTx_cases x with ⟨_, e⟩ | ⟨hs, hfull, e⟩ | ⟨hs, hroom, e⟩ <;> rw [e]
  · exact h
  · refine ⟨hrx, fun _ => ?_⟩
    simpa [hs] using Nat.le_antisymm (hfits hs) hfull
  · exact ⟨hrx, fun hovf => absurd (h.tx_length hs hovf) hroom.ne⟩

/-- Sealing adds the two bytes of the trailer, for which the bounds leave the room. -/
theorem overflowMeansFull_sealTx {b : Block} (hfits : TrailerFits b) (h : OverflowMeansFull b) :
    OverflowMeansFull b.sealTx := by
  have ⟨hrx, _⟩ := h
  rcases b.sealTx_cases with ⟨_, e⟩ | ⟨hs, hlong, _⟩ | ⟨hs, _, e⟩
  · rw [e]; exact h
  · exact absurd (hfits hs) (Nat.not_le.mpr hlong)
  · rw [e]
    refine ⟨hrx, fun hovf => ?_⟩
    have hlen : b.tx.length = Config.frameMax - 2 := h.tx_length hs hovf
    simp [hlen, Config.frameMax]

theorem overflowMeansFull_blockAfter (i : Instr) {b : Block} (hfits : TrailerFits b)
    (h : OverflowMeansFull b) : OverflowMeansFull (blockAfter i b) := by
  have ⟨hrx, htx⟩ := h
  cases i
  case rxClear => exact ⟨nofun, htx⟩
  case txStart => exact ⟨hrx, nofun⟩
  case txSeal => exact overflowMeansFull_sealTx hfits h
  case errClear => exact ⟨nofun, nofun⟩
  case softReset => exact ⟨nofun, nofun⟩
  case wrRxIn x => exact overflowMeansFull_pushRx x h
  case wrTxIn x => exact overflowMeansFull_pushTx x hfits h
  all_goals exact h

/-- Settles O15: the flags' meaning together with the buffers' bounds, which shut out a sealing
without room for the trailer, holds of the reset record and is kept by every access. -/
theorem stepKeepsOverflowMeansFull : Obligations.StepKeepsOverflowMeansFull := by
  intro s t hbounds hovf h
  obtain ⟨-, hkept⟩ : BufferBounds t.blk ∧ OverflowMeansFull t.blk :=
    step_keeps (P := fun b => BufferBounds b ∧ OverflowMeansFull b)
      ⟨bufferBounds_reset, nofun, nofun⟩
      (fun i b ⟨hb, ho⟩ =>
        have ⟨_, hfits⟩ := (bufferBounds_iff b).mp hb
        ⟨bufferBounds_blockAfter i hb, overflowMeansFull_blockAfter i hfits ho⟩)
      ⟨hbounds, hovf⟩ h
  exact hkept

/-! ### The encoded frame (spec/41_frame_tx.md R120) -/

@[simp] theorem encodeFrame_length (a f : Byte) (p : List Byte) :
    (encodeFrame a f p).length = p.length + 4 := by
  simp [encodeFrame]

@[simp] theorem byteAt_encodeFrame_zero (a f : Byte) (p : List Byte) :
    byteAt (encodeFrame a f p) 0 = a := rfl

@[simp] theorem byteAt_encodeFrame_one (a f : Byte) (p : List Byte) :
    byteAt (encodeFrame a f p) 1 = f := rfl

/-- The payload stands behind the address and the function code. -/
theorem encodeFrame_payload (a f : Byte) (p : List Byte) :
    ((encodeFrame a f p).drop 2).take p.length = p :=
  List.take_left

theorem encodeFrame_verifies (a f : Byte) (p : List Byte) :
    recomputedCrc (encodeFrame a f p) = claimedCrc (encodeFrame a f p) :=
  (recomputedCrc_withTrailer _).trans (claimedCrc_withTrailer _).symm

/-- Settles O26: the layout is the definition's, with the trailer's two bytes written out. -/
theorem encodedFrameLayout : Obligations.EncodedFrameLayout :=
  fun a f p => ⟨rfl, encodeFrame_length a f p⟩

/-! ### Appending and sealing, case by case (spec/41_frame_tx.md R131, R132) -/

section
variable {b : Block}

theorem Block.pushTx_of_sealed (hs : b.txSealed = true) (x : Byte) : b.pushTx x = b.flagAccErr :=
  if_pos hs

theorem Block.pushTx_of_full (hs : b.txSealed = false) (h : 248 ≤ b.tx.length) (x : Byte) :
    b.pushTx x = b.flagTxOvf := by
  rw [Block.pushTx, hs, if_neg Bool.false_ne_true]
  exact if_pos h

theorem Block.pushTx_of_room (hs : b.txSealed = false) (h : b.tx.length < 248) (x : Byte) :
    b.pushTx x = b.setTx (b.tx ++ [x]) := by
  rw [Block.pushTx, hs, if_neg Bool.false_ne_true]
  exact if_neg (Nat.not_le.mpr h)

theorem Block.sealTx_of_sealed (hs : b.txSealed = true) : b.sealTx = b.flagAccErr :=
  if_pos hs

theorem Block.sealTx_of_long (hs : b.txSealed = false) (h : 248 < b.tx.length) :
    b.sealTx = b.flagTxOvf := by
  rw [Block.sealTx, hs, if_neg Bool.false_ne_true]
  exact if_pos h

theorem Block.sealTx_of_room (hs : b.txSealed = false) (h : b.tx.length ≤ 248) :
    b.sealTx = (b.setTx (withTrailer b.tx)).setSealed true := by
  rw [Block.sealTx, hs, if_neg Bool.false_ne_true]
  exact if_neg (Nat.not_lt.mpr h)

end

/-! ### The encode sequence (spec/41_frame_tx.md R135) -/

/-- The two request registers written and TX_START: a frame begun with the two bytes. -/
theorem run_startFrame (a f : Byte) (s : State) :
    ∃ t, runAccesses [.wrReqAddr a, .wrReqFc f, .txStart] s = .next t ∧
      t.blk = ((s.blk.setReqAddr a).setReqFc f).startTx :=
  ⟨_, rfl, rfl⟩

/-- Sealing an unsealed frame that leaves room for the trailer. -/
theorem run_sealFrame {s : State} (hs : s.blk.txSealed = false) (h : s.blk.tx.length ≤ 248) :
    ∃ t, runAccesses [.txSeal] s = .next t ∧
      t.blk = (s.blk.setTx (withTrailer s.blk.tx)).setSealed true :=
  ⟨_, rfl, Block.sealTx_of_room hs h⟩

/-- Settles O35: the frame is begun, the payload is pushed up to the trailer's room, and the frame
is sealed. -/
theorem encodeSequenceBuildsTheFrame : Obligations.EncodeSequenceBuildsTheFrame := by
  intro s a f p
  obtain ⟨t₁, hstart, hblk₁⟩ := run_startFrame a f s
  obtain ⟨t₂, hpush, hblk₂⟩ := run_pushTx p t₁ (by rw [hblk₁]; rfl) (by rw [hblk₁]; simp)
  have htx : t₂.blk.tx = [a, f] ++ p.take 246 := by simp [hblk₂, hblk₁]
  have hlen : t₂.blk.tx.length ≤ 248 := by simp [htx]; omega
  have hovf : t₂.blk.txOvf = decide (246 < p.length) := by simp [hblk₂, hblk₁]; omega
  obtain ⟨t₃, hseal, hblk₃⟩ := run_sealFrame (s := t₂) (by rw [hblk₂, hblk₁]; rfl) hlen
  refine ⟨t₃, ?_, ?_⟩
  · rw [List.append_assoc, runAccesses_append _ hstart, runAccesses_append _ hpush, hseal]
  · rw [hblk₃, htx]
    refine ⟨rfl, rfl, hovf, ?_⟩
    rw [hblk₂, hblk₁]
    exact ⟨rfl, rfl, rfl⟩

/-! ### An encoded frame decodes (spec/42_frame_rx.md R158, R180) -/

/-- A frame that is long enough, is no error reply and verifies decodes to OK. -/
theorem decodeFrame_of_verifies {g : List Byte} (hlen : 5 ≤ g.length) (hfc : byteAt g 1 ≤ 127#8)
    (hcrc : recomputedCrc g = claimedCrc g) :
    decodeFrame g = ⟨resOk, byteAt g 0, byteAt g 1, 0#8, 0#8, recomputedCrc g, claimedCrc g,
      BitVec.ofNat 8 (g.length - 4)⟩ := by
  rcases decodeFrame_cases g with ⟨hshort, _⟩ | ⟨_, herr, _⟩ | ⟨_, _, hbad, _⟩ | ⟨_, _, _, e⟩
  · omega
  · exact absurd hfc (BitVec.not_le.mpr herr)
  · exact absurd hcrc hbad
  · exact e

/-- The outcome of an encoded frame whose payload is not empty. -/
theorem decodeFrame_encodeFrame (a : Byte) {f : Byte} (hf : f ≤ 127#8) {p : List Byte}
    (hp : p ≠ []) :
    decodeFrame (encodeFrame a f p) = ⟨resOk, a, f, 0#8, 0#8, crc16 ([a, f] ++ p),
      crc16 ([a, f] ++ p), BitVec.ofNat 8 p.length⟩ := by
  have hlen : 5 ≤ (encodeFrame a f p).length := by
    have hpos := List.length_pos_iff.mpr hp
    rw [encodeFrame_length]
    omega
  rw [decodeFrame_of_verifies hlen hf (encodeFrame_verifies a f p),
    encodeFrame_length, Nat.add_sub_cancel, byteAt_encodeFrame_zero, byteAt_encodeFrame_one,
    encodeFrame, recomputedCrc_withTrailer, claimedCrc_withTrailer]

/-- A frame without payload has 4 bytes, one short of the shortest the decoder accepts. -/
theorem decodeFrame_encodeFrame_nil (a f : Byte) :
    (decodeFrame (encodeFrame a f [])).result = resTooShort := rfl

/-- Settles O45: the frame fits an empty `rx`, and DECODE reads it back. -/
theorem frameRoundTrip : Obligations.FrameRoundTrip := by
  intro s a f p hrx hf hp
  have hroom : s.blk.rx.length + (encodeFrame a f p).length ≤ Config.frameMax := by
    rw [hrx, encodeFrame_length, Config.frameMax, List.length_nil]
    omega
  obtain ⟨u, hpush, hblk⟩ := run_pushRx (encodeFrame a f p) s hroom
  have hu : u.blk.rx = encodeFrame a f p := by rw [hblk, hrx]; rfl
  refine ⟨_, runAccesses_append [.decode] hpush, fun hnil => ?_, fun hne => ?_⟩
  · rw [State.completeWrite_blk, Block.setOutcome_result, hu, hnil]
    exact decodeFrame_encodeFrame_nil a f
  · have hlen : (BitVec.ofNat 8 p.length).toNat = p.length := by
      rw [BitVec.toNat_ofNat]
      omega
    rw [State.completeWrite_blk, Block.setOutcome_rx, hu, decodeFrame_encodeFrame a hf hne]
    exact ⟨rfl, rfl, rfl, hlen, encodeFrame_payload a f p⟩

/-! ### The reply-length table (spec/41_frame_tx.md R121) -/

/-- Settles O27: the ten rows by computation, and a code outside them fails every test. -/
theorem replyLengthTable : Obligations.ReplyLengthTable := by
  refine ⟨by decide, fun f hf => ?_⟩
  simp only [List.mem_cons, List.not_mem_nil, or_false, not_or, BitVec.ofNat_eq_ofNat] at hf
  simp only [replyLen, hf, if_false]

/-! ### The request registers (spec/41_frame_tx.md R122 to R126) -/

/-- Settles O28: the word is the write of its byte to REQ_ADDR. -/
theorem wrReqAddrHoldsItsByte : Obligations.WrReqAddrHoldsItsByte :=
  ⟨decode_writeWord 0x005#10, fun _ _ => rfl⟩

/-- A flag as a byte is its bit 0. -/
theorem getLsbD_flagByte (f : Bool) (i : Nat) :
    (flagByte f).getLsbD i = (decide (i = 0) && f) := by
  cases f <;> cases i <;> simp [flagByte]

/-- Bit 4 of STATUS is RX_AT_EXP (spec/10_state.md R26). -/
theorem Block.getLsbD_status_rxAtExp (b : Block) : b.status.getLsbD 4 = b.rxAtExp := by
  simp only [Block.status, BitVec.getLsbD_or, BitVec.getLsbD_shiftLeft, getLsbD_flagByte]
  simp

/-- The function code of a frame that decodes is no error code. -/
theorem rspFc_le_of_ok {g : List Byte} (h : (decodeFrame g).result = resOk) :
    (decodeFrame g).rspFc ≤ 127#8 := by
  obtain ⟨hlen, hfc, hcrc⟩ := decodeFrame_ok h
  rw [decodeFrame_of_verifies hlen hfc hcrc]
  exact hfc

/-- Validation rejects a frame that decodes with another function code than the requested one. -/
theorem result_validate_of_otherFc {o : FrameOutcome} (hok : o.result = resOk) (ra : Byte)
    {rf : Byte} (hfc : o.rspFc ≠ rf) : (validate o ra rf).result = resNonmatchingFc := by
  rcases validate_cases o ra rf with ⟨hn, _⟩ | ⟨_, _, e⟩ | ⟨_, hrf, _⟩ | ⟨_, hrf, _⟩
  · exact absurd hok hn
  · rw [e]
  · exact absurd hrf hfc
  · exact absurd hrf hfc

/-- Settles O29: the word is the write of its byte to REQ_FC, STATUS bit 4 is computed from the new
code, and no frame that decodes has a code above 127. -/
theorem wrReqFcHoldsItsByte : Obligations.WrReqFcHoldsItsByte := by
  refine ⟨decode_writeWord 0x006#10, fun s f => ⟨_, rfl, rfl, rfl, ?_⟩, fun s hfc hok => ?_⟩
  · exact Block.getLsbD_status_rxAtExp _
  · refine ⟨_, rfl, ?_⟩
    rw [State.completeWrite_blk, Block.setOutcome_result]
    refine result_validate_of_otherFc hok _ fun heq => ?_
    exact absurd (heq ▸ rspFc_le_of_ok hok) (BitVec.not_le.mpr hfc)

/-- Settles O30: whatever DATA holds, the words are the reads of the three registers. -/
theorem requestReadsReturnTheRegisters : Obligations.RequestReadsReturnTheRegisters :=
  ⟨fun d => ⟨decode_readWord 0x005#10 d, decode_readWord 0x006#10 d, decode_readWord 0x007#10 d⟩,
    fun _ => ⟨rfl, rfl, rfl⟩⟩

/-! ### The assembly of a frame (spec/41_frame_tx.md R130 to R132) -/

/-- Settles O31: the word is TX_START's, and its operation is the record written out. -/
theorem txStartBeginsAFrame : Obligations.TxStartBeginsAFrame :=
  ⟨by decide, fun _ => rfl⟩

theorem exec_wrTxIn_of_pushTx {s : State} {x : Byte} {b : Block} (h : s.blk.pushTx x = b) :
    exec (.wrTxIn x) s = .next (s.completeWrite b) :=
  h ▸ rfl

/-- Settles O32: the word is the write of its byte to TX_IN, and the append has its three cases. -/
theorem wrTxInAppendsOrFlags : Obligations.WrTxInAppendsOrFlags :=
  ⟨decode_writeWord 0x00A#10, fun _ x =>
    ⟨fun hs => exec_wrTxIn_of_pushTx (Block.pushTx_of_sealed hs x),
      fun hs hlen => exec_wrTxIn_of_pushTx (Block.pushTx_of_full hs hlen x),
      fun hs hlen => exec_wrTxIn_of_pushTx (Block.pushTx_of_room hs hlen x)⟩⟩

theorem exec_txSeal_of_sealTx {s : State} {b : Block} (h : s.blk.sealTx = b) :
    exec .txSeal s = .next (s.completeWrite b) :=
  h ▸ rfl

/-- Settles O33: the word is TX_SEAL's, and the sealing has its three cases. -/
theorem txSealAppendsTheTrailer : Obligations.TxSealAppendsTheTrailer :=
  ⟨by decide, fun _ =>
    ⟨fun hs => exec_txSeal_of_sealTx (Block.sealTx_of_sealed hs),
      fun hs hlen => exec_txSeal_of_sealTx (Block.sealTx_of_long hs hlen),
      fun hs hlen => exec_txSeal_of_sealTx (Block.sealTx_of_room hs hlen)⟩⟩

/-! ### The reads of a buffer (spec/10_state.md R31, R32, R36; spec/41_frame_tx.md R133, R134) -/

theorem lenByte_toNat {buf : List Byte} (h : buf.length ≤ 250) :
    (lenByte buf).toNat = buf.length := by
  rw [lenByte, BitVec.toNat_ofNat]
  omega

theorem byteAt_eq_getElem {buf : List Byte} {i : Nat} (h : i < buf.length) :
    byteAt buf i = buf[i] :=
  List.getD_eq_getElem buf 0x00#8 h

theorem byteAt_eq_zero {buf : List Byte} {i : Nat} (h : buf.length ≤ i) :
    byteAt buf i = 0x00#8 :=
  List.getD_eq_default buf 0x00#8 h

/-- The base of a window and the index of a byte in it share no bit. -/
theorem decode_windowWord {base : PortAddr} (h : ∀ j < 8, base.getLsbD j = false) (i d : Byte) :
    Sys2Proof.decode (base.setWidth 19 <<< 8 ||| i.setWidth 19 <<< 8 ||| d.setWidth 19) =
      decodeRead (base + i.setWidth 10) := by
  have hdisjoint : base &&& i.setWidth 10 = 0#10 := by
    refine BitVec.eq_of_getLsbD_eq fun j _ => ?_
    by_cases hj : j < 8
    · simp [h j hj]
    · simp [BitVec.getLsbD_of_ge i j (Nat.le_of_not_lt hj)]
  have hword : base.setWidth 19 <<< 8 ||| i.setWidth 19 <<< 8 =
      (base + i.setWidth 10).setWidth 19 <<< 8 := by
    have hwidth : (i.setWidth 10).setWidth 19 = i.setWidth 19 := by
      rw [BitVec.setWidth_setWidth]; decide
    rw [BitVec.add_eq_or_of_and_eq_zero _ _ hdisjoint, BitVec.setWidth_or, hwidth,
      BitVec.shiftLeft_or_distrib]
  rw [hword, decode_readWord]

/-- Settles O34: whatever DATA holds, the words are the reads of TX_LEN and of the window, and a
window byte is the buffer's byte or 0x00. -/
theorem txReadsReturnTheFrame : Obligations.TxReadsReturnTheFrame :=
  ⟨decode_readWord 0x00B#10,
    fun i d => (decode_windowWord (base := 0x200#10) (by decide) i d).trans (decodeRead_txWin i),
    fun _ => ⟨_, rfl, lenByte_toNat⟩,
    fun _ _ => ⟨_, rfl, byteAt_eq_getElem, byteAt_eq_zero⟩⟩

end Sys2Proof.Machine
end

section
/-! PROOFS. The receive side: the accesses to the receive buffer, the frame decoder on a frame
written out, the validation case by case, and what DECODE and CHECK leave in the result registers
(spec/42_frame_rx.md §1 to §4). -/

namespace Sys2Proof.Machine

/-! ### The receive buffer (spec/42_frame_rx.md R150 to R153) -/

/-- Settles O36: the word is RX_CLEAR's, and its operation is the record written out. -/
theorem rxClearEmptiesTheBuffer : Obligations.RxClearEmptiesTheBuffer :=
  ⟨by decide, fun _ => rfl⟩

theorem Block.pushRx_of_full {b : Block} (h : b.rx.length = 250) (x : Byte) :
    b.pushRx x = b.flagRxOvf :=
  if_pos h

theorem Block.pushRx_of_room {b : Block} (h : b.rx.length ≠ 250) (x : Byte) :
    b.pushRx x = b.setRx (b.rx ++ [x]) :=
  if_neg h

theorem exec_wrRxIn_of_pushRx {s : State} {x : Byte} {b : Block} (h : s.blk.pushRx x = b) :
    exec (.wrRxIn x) s = .next (s.completeWrite b) :=
  h ▸ rfl

/-- Settles O37: the word is the write of its byte to RX_IN, and the append has its two cases. -/
theorem wrRxInAppendsOrFlags : Obligations.WrRxInAppendsOrFlags :=
  ⟨decode_writeWord 0x008#10, fun _ x =>
    ⟨fun hfull => exec_wrRxIn_of_pushRx (Block.pushRx_of_full hfull x),
      fun hroom => exec_wrRxIn_of_pushRx (Block.pushRx_of_room hroom x)⟩⟩

/-- Settles O38: whatever DATA holds, the words are the reads of RX_LEN and of the window, and a
window byte is the buffer's byte or 0x00. -/
theorem rxReadsReturnTheBuffer : Obligations.RxReadsReturnTheBuffer :=
  ⟨decode_readWord 0x009#10,
    fun i d => (decode_windowWord (base := 0x100#10) (by decide) i d).trans (decodeRead_rxWin i),
    fun _ => ⟨_, rfl, lenByte_toNat⟩,
    fun _ _ => ⟨_, rfl, byteAt_eq_getElem, byteAt_eq_zero⟩⟩

/-! ### The frame decoder (spec/42_frame_rx.md R156 to R158) -/

/-- The recomputed CRC covers the bytes before the last two. -/
theorem recomputedCrc_append_pair (d : List Byte) (h l : Byte) :
    recomputedCrc (d ++ [h, l]) = crc16 d := by
  simp [recomputedCrc]

/-- The claimed CRC is the last two bytes, the high byte first. -/
theorem claimedCrc_append_pair (d : List Byte) (h l : Byte) :
    claimedCrc (d ++ [h, l]) = bigEndian h l := by
  simp [claimedCrc, byteAt]

theorem decodeFrame_of_short {buf : List Byte} (h : buf.length < 5) :
    decodeFrame buf = ⟨resTooShort, 0#8, 0#8, 0#8, 0#8, 0#16, 0#16, 0#8⟩ :=
  if_pos h

/-- The decoder on a frame of five bytes or more, its first three and last two written out. -/
theorem decodeFrame_of_layout (a f c h l : Byte) (p : List Byte) :
    decodeFrame ([a, f, c] ++ p ++ [h, l]) =
      if 127#8 < f then ⟨resDeviceError, a, f, c, classify c, 0#16, 0#16, 0#8⟩
      else if crc16 ([a, f, c] ++ p) ≠ bigEndian h l then
        ⟨resBadCrc, a, f, 0#8, 0#8, crc16 ([a, f, c] ++ p), bigEndian h l, 0#8⟩
      else
        ⟨resOk, a, f, 0#8, 0#8, crc16 ([a, f, c] ++ p), bigEndian h l,
          BitVec.ofNat 8 (p.length + 1)⟩ := by
  have hlen : ([a, f, c] ++ p ++ [h, l]).length = p.length + 5 := by simp
  have hfc : byteAt ([a, f, c] ++ p ++ [h, l]) 1 = f := rfl
  have hcrc := recomputedCrc_append_pair ([a, f, c] ++ p) h l
  have hgot := claimedCrc_append_pair ([a, f, c] ++ p) h l
  rcases decodeFrame_cases ([a, f, c] ++ p ++ [h, l]) with
    ⟨hshort, _⟩ | ⟨_, herr, e⟩ | ⟨_, hle, hbad, e⟩ | ⟨_, hle, hok, e⟩
  · omega
  · rw [if_pos (hfc ▸ herr), e]
    rfl
  · rw [hcrc, hgot] at hbad
    rw [if_neg (BitVec.not_lt.mpr (hfc ▸ hle)), if_pos hbad, e, hcrc, hgot]
    rfl
  · rw [hcrc, hgot] at hok
    rw [if_neg (BitVec.not_lt.mpr (hfc ▸ hle)), if_neg (not_not.mpr hok), e, hcrc, hgot, hlen]
    rfl

/-- A code outside the five named ones fails every test of the classification. -/
theorem classify_of_unnamed {c : Byte} (hc : c ∉ ([1, 2, 3, 4, 32] : List Byte)) :
    classify c = 0x06#8 := by
  simp only [List.mem_cons, List.not_mem_nil, or_false, not_or, BitVec.ofNat_eq_ofNat] at hc
  simp only [classify, hc, if_false]

/-- Settles O39: a short buffer fails the first test, a longer one is the frame written out, and the
classification names five codes. -/
theorem frameDecoderOutcomes : Obligations.FrameDecoderOutcomes :=
  ⟨fun _ => decodeFrame_of_short, decodeFrame_of_layout,
    by decide, by decide, by decide, by decide, by decide, fun _ => classify_of_unnamed⟩

/-! ### The validation, case by case (spec/42_frame_rx.md R159) -/

section
variable {o : FrameOutcome} {ra rf : Byte}

theorem validate_of_error (h : o.result ≠ resOk) (ra rf : Byte) : validate o ra rf = o :=
  if_pos h

theorem validate_of_otherFc (hok : o.result = resOk) (hfc : o.rspFc ≠ rf) (ra : Byte) :
    validate o ra rf = { o with result := resNonmatchingFc } := by
  rw [validate, if_neg (not_not.mpr hok), if_pos hfc]

theorem validate_of_otherAddr (hok : o.result = resOk) (hfc : o.rspFc = rf) (hra : ra ≠ 250#8)
    (haddr : o.rspAddr ≠ ra) : validate o ra rf = { o with result := resWrongAddress } := by
  rw [validate, if_neg (not_not.mpr hok), if_neg (not_not.mpr hfc)]
  exact if_pos ⟨hra, haddr⟩

theorem validate_of_match (hok : o.result = resOk) (hfc : o.rspFc = rf)
    (haddr : ra = 250#8 ∨ o.rspAddr = ra) : validate o ra rf = o := by
  rw [validate, if_neg (not_not.mpr hok), if_neg (not_not.mpr hfc)]
  exact if_neg fun ⟨hra, hne⟩ => haddr.elim hra hne

/-- The transparent request address never adds a WRONG_ADDRESS (spec/42_frame_rx.md R162). -/
theorem result_validate_of_transparent (h : o.result ≠ resWrongAddress) (rf : Byte) :
    (validate o 250#8 rf).result ≠ resWrongAddress := by
  rcases validate_cases o 250#8 rf with ⟨_, e⟩ | ⟨_, _, e⟩ | ⟨_, _, hra, _, _⟩ | ⟨_, _, _, e⟩
  · rwa [e]
  · rw [e]
    exact (by decide : resNonmatchingFc ≠ resWrongAddress)
  · exact absurd rfl hra
  · rwa [e]

end

/-- Settles O40: the four cases in the order of the tests. -/
theorem validateChecksCodeThenAddress : Obligations.ValidateChecksCodeThenAddress :=
  fun _ ra rf => ⟨fun h => validate_of_error h ra rf, fun hok hfc => validate_of_otherFc hok hfc ra,
    validate_of_otherAddr, validate_of_match⟩

/-! ### DECODE and CHECK (spec/42_frame_rx.md R160 to R162) -/

/-- Settles O41: the word is DECODE's, and its operation writes the eight fields. -/
theorem decodeWritesTheOutcome : Obligations.DecodeWritesTheOutcome :=
  ⟨by decide, fun _ => rfl⟩

/-- The decoder's own codes end at BAD_CRC: it reads no request register. -/
theorem decodeFrame_result_le (buf : List Byte) : (decodeFrame buf).result ≤ resBadCrc := by
  rcases decodeFrame_cases buf with ⟨_, e⟩ | ⟨_, _, e⟩ | ⟨_, _, _, e⟩ | ⟨_, _, _, e⟩ <;> rw [e]
  · exact (by decide : resTooShort ≤ resBadCrc)
  · exact (by decide : resDeviceError ≤ resBadCrc)
  · exact (by decide : resBadCrc ≤ resBadCrc)
  · exact (by decide : resOk ≤ resBadCrc)

theorem decodeFrame_result_ne_wrongAddress (buf : List Byte) :
    (decodeFrame buf).result ≠ resWrongAddress :=
  fun h => absurd (h ▸ decodeFrame_result_le buf) (by decide)

/-- The two header registers of a frame that decodes are its first two bytes. -/
theorem decodeFrame_header_of_ok {g : List Byte} (h : (decodeFrame g).result = resOk) :
    (decodeFrame g).rspAddr = byteAt g 0 ∧ (decodeFrame g).rspFc = byteAt g 1 := by
  obtain ⟨hlen, hfc, hcrc⟩ := decodeFrame_ok h
  rw [decodeFrame_of_verifies hlen hfc hcrc]
  exact ⟨rfl, rfl⟩

theorem result_of_check {s t : State} (h : exec .check s = .next t) :
    t.blk.result = (validate (decodeFrame s.blk.rx) s.blk.reqAddr s.blk.reqFc).result := by
  obtain ⟨hblk, _, _⟩ := exec_inversion h
  rw [hblk]
  rfl

/-- Settles O42: the word is CHECK's and its operation writes the eight fields; the transparent
address adds no WRONG_ADDRESS, no frame that decodes has a code above 127, and a device error is
kept. -/
theorem checkWritesTheValidatedOutcome : Obligations.CheckWritesTheValidatedOutcome := by
  refine ⟨by decide, fun s o ho => ho ▸ rfl, fun s t h => ?_⟩
  rw [result_of_check h]
  refine ⟨fun hra => ?_, fun hfc hok => ?_, fun hdev => ?_⟩
  · rw [hra]
    exact result_validate_of_transparent (decodeFrame_result_ne_wrongAddress s.blk.rx) s.blk.reqFc
  · refine result_validate_of_otherFc hok _ fun heq => ?_
    exact absurd (heq ▸ rspFc_le_of_ok hok) (BitVec.not_le.mpr hfc)
  · have herr : (decodeFrame s.blk.rx).result ≠ resOk := by rw [hdev]; decide
    rw [validate_of_error herr, hdev]

/-- Settles O44: the reply's code is the requested one, so the address alone decides, and only 250
exempts it. -/
theorem onlyAddress250IsTransparent : Obligations.OnlyAddress250IsTransparent := by
  intro s hok hbyte
  obtain ⟨haddr, hrsp⟩ := decodeFrame_header_of_ok hok
  have hfc : (decodeFrame s.blk.rx).rspFc = s.blk.reqFc := hrsp.trans hbyte
  refine ⟨_, rfl, fun hra => ?_, fun _ heq => ?_, fun hra hne => ?_⟩ <;>
    rw [State.completeWrite_blk, Block.setOutcome_result]
  · rw [validate_of_match hok hfc (.inl hra), hok]
  · rw [validate_of_match hok hfc (.inr (haddr.trans heq)), hok]
  · rw [validate_of_otherAddr hok hfc hra (haddr ▸ hne)]
    rfl

end Sys2Proof.Machine
end

section
/-! PROOFS. The control accesses: NOP, ERR_CLEAR and SOFT_RESET, the STATUS byte bit by bit, and the
reserved and ignored accesses (spec/43_control.md R200 to R207). -/

namespace Sys2Proof.Machine

/-! ### NOP, ERR_CLEAR and SOFT_RESET (spec/43_control.md R200 to R202) -/

/-- Settles O48: the words are the three commands', and each operation is the record written out. -/
theorem controlCommands : Obligations.ControlCommands :=
  ⟨by decide, fun _ => ⟨rfl, rfl, rfl⟩⟩

/-! ### The STATUS byte (spec/10_state.md R26) -/

/-- The bits of STATUS from bit 0 up, and 0 past the sixth. -/
theorem Block.getLsbD_status (b : Block) (i : Nat) :
    b.status.getLsbD i =
      [b.rxOvf, b.txOvf, b.accErr, b.txSealed, b.rxAtExp, b.rxFull].getD i false := by
  simp only [Block.status, BitVec.getLsbD_or, BitVec.getLsbD_shiftLeft, getLsbD_flagByte]
  rcases i with _ | _ | _ | _ | _ | _ | i <;> simp

theorem Block.rxFull_iff (b : Block) : b.rxFull = true ↔ b.rx.length = 250 :=
  beq_iff_eq

theorem Block.rxAtExp_iff (b : Block) :
    b.rxAtExp = true ↔
      replyLen b.reqFc ≠ 0#8 ∧ b.rx.length = (replyLen b.reqFc).toNat := by
  rw [Block.rxAtExp, Bool.and_eq_true, bne_iff_ne, beq_iff_eq]

/-- Settles O50: whatever DATA holds, the word is the read of STATUS, whose six low bits are the
flags and the two computed bits. -/
theorem statusReadShowsEveryFlag : Obligations.StatusReadShowsEveryFlag := by
  refine ⟨decode_readWord 0x001#10, fun s => ⟨s.blk.status, rfl, ?_⟩⟩
  simp only [Block.getLsbD_status]
  exact ⟨rfl, rfl, rfl, rfl, s.blk.rxAtExp_iff, s.blk.rxFull_iff, rfl, rfl⟩

/-! ### Reserved and ignored accesses (spec/43_control.md R203, R206, R207) -/

theorem isWritable_iff (a : PortAddr) :
    isWritable a = true ↔
      a ∈ ([0x000, 0x002, 0x005, 0x006, 0x008, 0x00A] : List PortAddr) := by
  simp [isWritable, or_assoc]

theorem readsAsZero_iff (a : PortAddr) :
    readsAsZero a = true ↔
      a ∈ ([0x000, 0x002, 0x008, 0x00A] : List PortAddr) ∨
        (0x016#10 ≤ a ∧ a ≤ 0x0FF#10) ∨ 0x300#10 ≤ a := by
  simp [readsAsZero, or_assoc]

/-- A write to CMD is decoded by its opcode alone. -/
theorem decode_commandWord (op : Byte) :
    Sys2Proof.decode (0x40000#19 ||| op.setWidth 19) = decodeCommand op :=
  decode_writeWord 0x000#10 op

/-- Settles O49: an opcode past the assigned ones is reserved, an address that is not writable is
ignored, and both arms of `exec` raise the flag. -/
theorem reservedWritesOnlyRaiseAccErr : Obligations.ReservedWritesOnlyRaiseAccErr := by
  refine ⟨fun op hop => ?_, fun a d ha => ?_, fun _ _ => rfl, fun _ _ _ => rfl⟩
  · rw [decode_commandWord, decodeCommand_reserved op hop]
  · have hignored : isWritable a = false := by rwa [← isWritable_iff, Bool.not_eq_true] at ha
    rw [decode_writeWord, decodeWrite_ignored a d hignored]

/-- Settles O51: whatever DATA holds, the word is the read of its address, which the read map leaves
out. -/
theorem reservedReadsReturnZero : Obligations.ReservedReadsReturnZero := by
  refine ⟨fun a d ha => ?_, fun _ _ => rfl⟩
  rw [decode_readWord, decodeRead_zero a ((readsAsZero_iff a).mpr ha)]

end Sys2Proof.Machine
end

section
/-! PROOFS. Exceptions: idle steps, the source's error that RESULT names, the first failing cause
that DECODE and CHECK report, and the causes of the sticky flags (spec/60_exceptions.md). -/

namespace Sys2Proof.Machine

/-! ### A step without an access (spec/60_exceptions.md R235) -/

theorem step_of_no_input {s : State} (h : s.inputs = []) : step s = .next s.noAccess := by
  rw [step, h]

theorem step_of_idle {s : State} {rest : List PortInput} (h : s.inputs = ⟨false, none⟩ :: rest) :
    step s = .next (State.noAccess { s with inputs := rest }) := by
  rw [step, h]

/-- Settles O9: both idle steps change the inputs and the outputs only. -/
theorem idleStepKeepsTheRecord : Obligations.IdleStepKeepsTheRecord :=
  fun _ => ⟨fun h => ⟨_, step_of_no_input h, rfl, h⟩, fun _ h => ⟨_, step_of_idle h, rfl, rfl⟩⟩

/-! ### The source's error (spec/60_exceptions.md R224) -/

/-- Only the reserved code stands for the source's echo mismatch. -/
theorem Block.result_of_echoMismatch {b : Block} (h : b.sourceError = some .echoMismatch) :
    b.result = resEchoMismatch := by
  by_contra hne
  rw [Block.sourceError, if_neg hne] at h
  split_ifs at h <;> cases h

/-- Settles O59: the code chooses the branch, and a written code is below ECHO_MISMATCH. -/
theorem resultNamesTheSourceError : Obligations.ResultNamesTheSourceError := by
  intro b
  refine ⟨?_, ?_, ?_, ?_, ?_, fun hle hecho => ?_, ?_⟩
  case refine_6 =>
    rw [Block.result_of_echoMismatch hecho] at hle
    exact absurd hle (by decide)
  case refine_7 => rintro (h | h) <;> rw [Block.sourceError, h] <;> rfl
  all_goals
    intro h
    rw [Block.sourceError, h]
    rfl

/-! ### The first failing cause (spec/60_exceptions.md R221, R222) -/

/-- The frame decoder's code is that of the first cause that holds, OK where none does. -/
theorem decodeFrame_result_cases (b : Block) :
    (b.TooShort ∧ (decodeFrame b.rx).result = resTooShort) ∨
    (¬b.TooShort ∧ b.ErrorReply ∧ (decodeFrame b.rx).result = resDeviceError) ∨
    (¬b.TooShort ∧ ¬b.ErrorReply ∧ b.CrcDiffers ∧ (decodeFrame b.rx).result = resBadCrc) ∨
    (¬b.TooShort ∧ ¬b.ErrorReply ∧ ¬b.CrcDiffers ∧ (decodeFrame b.rx).result = resOk) := by
  rcases decodeFrame_cases b.rx with
    ⟨hshort, e⟩ | ⟨hlen, herr, e⟩ | ⟨hlen, hfc, hcrc, e⟩ | ⟨hlen, hfc, hcrc, e⟩ <;> rw [e]
  · exact .inl ⟨hshort, rfl⟩
  · exact .inr (.inl ⟨hlen.not_gt, herr, rfl⟩)
  · exact .inr (.inr (.inl ⟨hlen.not_gt, BitVec.not_lt.mpr hfc, hcrc, rfl⟩))
  · exact .inr (.inr (.inr ⟨hlen.not_gt, BitVec.not_lt.mpr hfc, not_not.mpr hcrc, rfl⟩))

/-- What CHECK makes of a frame that decodes: the function code is compared before the address. -/
theorem result_validate_of_decoded {b : Block} (hok : (decodeFrame b.rx).result = resOk) :
    (b.OtherFunctionCode ∧
      (validate (decodeFrame b.rx) b.reqAddr b.reqFc).result = resNonmatchingFc) ∨
    (¬b.OtherFunctionCode ∧ b.OtherAddress ∧
      (validate (decodeFrame b.rx) b.reqAddr b.reqFc).result = resWrongAddress) ∨
    (¬b.OtherFunctionCode ∧ ¬b.OtherAddress ∧
      (validate (decodeFrame b.rx) b.reqAddr b.reqFc).result = resOk) := by
  obtain ⟨haddr, hfc⟩ := decodeFrame_header_of_ok hok
  rw [Block.OtherFunctionCode, Block.OtherAddress, ← haddr, ← hfc]
  rcases validate_cases (decodeFrame b.rx) b.reqAddr b.reqFc with
    ⟨herr, _⟩ | ⟨_, hne, e⟩ | ⟨_, heq, hra, hother, e⟩ | ⟨_, heq, hmatch, e⟩
  · exact absurd hok herr
  · exact .inl ⟨hne, congrArg _ e⟩
  · exact .inr (.inl ⟨not_not.mpr heq, ⟨hra, hother⟩, congrArg _ e⟩)
  · refine .inr (.inr ⟨not_not.mpr heq, fun ⟨hra, hother⟩ => hmatch.elim hra hother, ?_⟩)
    rw [e, hok]

/-- The codes of DECODE, each exactly under its cause. -/
theorem decodeFrame_result_iff (b : Block) :
    ((decodeFrame b.rx).result = 0x02#8 ↔ b.TooShort) ∧
    ((decodeFrame b.rx).result = 0x03#8 ↔ ¬b.TooShort ∧ b.ErrorReply) ∧
    ((decodeFrame b.rx).result = 0x04#8 ↔ ¬b.TooShort ∧ ¬b.ErrorReply ∧ b.CrcDiffers) ∧
    ((decodeFrame b.rx).result = 0x01#8 ↔ ¬b.TooShort ∧ ¬b.ErrorReply ∧ ¬b.CrcDiffers) := by
  rcases decodeFrame_result_cases b with
    ⟨hshort, e⟩ | ⟨hlong, herr, e⟩ | ⟨hlong, hfc, hcrc, e⟩ | ⟨hlong, hfc, hcrc, e⟩ <;> rw [e]
  · simp +decide [hshort]
  · simp +decide [hlong, herr]
  · simp +decide [hlong, hfc, hcrc]
  · simp +decide [hlong, hfc, hcrc]

/-- Settles O43: DECODE's codes are the frame decoder's; CHECK keeps its errors, and validates a
frame that decodes. -/
theorem firstFailureIsReported : Obligations.FirstFailureIsReported := by
  refine fun s => ⟨⟨_, rfl, ?_⟩, _, rfl, decodeFrame_result_iff s.blk⟩
  rw [State.completeWrite_blk, Block.setOutcome_result]
  have hkept : (decodeFrame s.blk.rx).result ≠ resOk →
      validate (decodeFrame s.blk.rx) s.blk.reqAddr s.blk.reqFc = decodeFrame s.blk.rx :=
    fun herr => validate_of_error herr _ _
  rcases decodeFrame_result_cases s.blk with
    ⟨hshort, e⟩ | ⟨hlong, herr, e⟩ | ⟨hlong, hfc, hcrc, e⟩ | ⟨hlong, hfc, hcrc, hok⟩
  · rw [hkept (by rw [e]; decide), e]
    simp +decide [hshort]
  · rw [hkept (by rw [e]; decide), e]
    simp +decide [hlong, herr]
  · rw [hkept (by rw [e]; decide), e]
    simp +decide [hlong, hfc, hcrc]
  · rcases result_validate_of_decoded hok with ⟨hcode, e⟩ | ⟨hcode, haddr, e⟩ | ⟨hcode, haddr, e⟩
      <;> rw [e]
    · simp +decide [hlong, hfc, hcrc, hcode]
    · simp +decide [hlong, hfc, hcrc, hcode, haddr]
    · simp +decide [hlong, hfc, hcrc, hcode, haddr]

/-! ### The sticky flags (spec/60_exceptions.md R223) -/

/-- RX_OVF's cause: a byte to a full `rx`. -/
def RaisesRxOvf (i : Instr) (b : Block) : Prop := (∃ x, i = .wrRxIn x) ∧ b.rx.length = 250

/-- TX_OVF's cause: a byte to an unsealed `tx` that has only the trailer's room left. -/
def RaisesTxOvf (i : Instr) (b : Block) : Prop :=
  (∃ x, i = .wrTxIn x) ∧ b.txSealed = false ∧ 248 ≤ b.tx.length

/-- ACC_ERR's causes: a reserved opcode, an ignored write, and a byte or a seal to a sealed `tx`. -/
def RaisesAccErr (i : Instr) (b : Block) : Prop :=
  (∃ op, i = .cmdRsvd op) ∨ (∃ a d, i = .wrIgnored a d) ∨
    (b.txSealed = true ∧ ((∃ x, i = .wrTxIn x) ∨ i = .txSeal))

/-- What an access does to a sticky flag: `cause` raises it and then `alone` holds, `clear` lowers
it, and otherwise it stays. -/
inductive StickyChange (cause clear alone : Prop) (before after : Bool) : Prop where
  | raised (hcause : cause) (hclear : ¬clear) (hafter : after = true) (halone : alone)
  | lowered (hcause : ¬cause) (hclear : clear) (hafter : after = false)
  | kept (hcause : ¬cause) (hclear : ¬clear) (hafter : after = before)

section
variable {cause clear alone : Prop} {before after : Bool}

theorem StickyChange.of_down (h : StickyChange cause clear alone before after)
    (hdown : before = false) : (after = true ↔ cause) ∧ (after = true → alone) := by
  subst hdown
  cases h with
  | raised hcause _ hafter halone => exact ⟨iff_of_true hafter hcause, fun _ => halone⟩
  | lowered hcause _ hafter => simp [hafter, hcause]
  | kept hcause _ hafter => simp [hafter, hcause]

theorem StickyChange.of_up (h : StickyChange cause clear alone before after)
    (hup : before = true) : after = false ↔ clear := by
  subst hup
  cases h with
  | raised _ hclear hafter _ => simp [hafter, hclear]
  | lowered _ hclear hafter => exact iff_of_true hafter hclear
  | kept _ hclear hafter => simp [hafter, hclear]

end

section
variable {i : Instr}

theorem rxOvf_blockAfter_of_not_writesRxOvf (h : writesRxOvf i = false) (b : Block) :
    (blockAfter i b).rxOvf = b.rxOvf := by
  rw [blockAfter_eq_overwrittenBy, Block.overwrittenBy, h, cond_false]

theorem txOvf_blockAfter_of_not_writesTxOvf (h : writesTxOvf i = false) (b : Block) :
    (blockAfter i b).txOvf = b.txOvf := by
  rw [blockAfter_eq_overwrittenBy, Block.overwrittenBy, h, cond_false]

theorem accErr_blockAfter_of_not_writesAccErr (h : writesAccErr i = false) (b : Block) :
    (blockAfter i b).accErr = b.accErr := by
  rw [blockAfter_eq_overwrittenBy, Block.overwrittenBy, h, cond_false]

end

theorem rxOvf_stickyChange (i : Instr) (b : Block) :
    StickyChange (RaisesRxOvf i b) (i = .rxClear ∨ i = .errClear ∨ i = .softReset)
      (blockAfter i b = b.flagRxOvf) b.rxOvf (blockAfter i b).rxOvf := by
  cases i
  case wrRxIn x =>
    rw [blockAfter]
    rcases b.pushRx_cases x with ⟨hfull, e⟩ | ⟨hroom, e⟩ <;> rw [e]
    · exact .raised ⟨⟨x, rfl⟩, hfull⟩ (by simp) rfl rfl
    · exact .kept (fun ⟨_, hfull⟩ => hroom hfull) (by simp) rfl
  case rxClear | errClear | softReset => exact .lowered (by simp [RaisesRxOvf]) (by simp) rfl
  all_goals
    exact .kept (by simp [RaisesRxOvf]) (by simp) (rxOvf_blockAfter_of_not_writesRxOvf rfl b)

/-- The bounds shut out the sealing that would overflow (spec/41_frame_tx.md R137). -/
theorem txOvf_stickyChange (i : Instr) {b : Block} (hfits : TrailerFits b) :
    StickyChange (RaisesTxOvf i b) (i = .txStart ∨ i = .errClear ∨ i = .softReset)
      (blockAfter i b = b.flagTxOvf) b.txOvf (blockAfter i b).txOvf := by
  cases i
  case wrTxIn x =>
    rw [blockAfter]
    rcases b.pushTx_cases x with ⟨hs, e⟩ | ⟨hs, hfull, e⟩ | ⟨_, hroom, e⟩ <;> rw [e]
    · exact .kept (by simp [RaisesTxOvf, hs]) (by simp) rfl
    · exact .raised ⟨⟨x, rfl⟩, hs, hfull⟩ (by simp) rfl rfl
    · exact .kept (fun ⟨_, _, hfull⟩ => hroom.not_ge hfull) (by simp) rfl
  case txSeal =>
    rw [blockAfter]
    refine .kept (by simp [RaisesTxOvf]) (by simp) ?_
    rcases b.sealTx_cases with ⟨_, e⟩ | ⟨hs, hlong, _⟩ | ⟨_, _, e⟩
    · rw [e, Block.flagAccErr_txOvf]
    · exact absurd (hfits hs) hlong.not_ge
    · rw [e, Block.setSealed_txOvf, Block.setTx_txOvf]
  case txStart | errClear | softReset => exact .lowered (by simp [RaisesTxOvf]) (by simp) rfl
  all_goals
    exact .kept (by simp [RaisesTxOvf]) (by simp) (txOvf_blockAfter_of_not_writesTxOvf rfl b)

theorem accErr_stickyChange (i : Instr) (b : Block) :
    StickyChange (RaisesAccErr i b) (i = .errClear ∨ i = .softReset)
      (blockAfter i b = b.flagAccErr) b.accErr (blockAfter i b).accErr := by
  cases i
  case cmdRsvd op => exact .raised (.inl ⟨op, rfl⟩) (by simp) rfl rfl
  case wrIgnored a d => exact .raised (.inr (.inl ⟨a, d, rfl⟩)) (by simp) rfl rfl
  case wrTxIn x =>
    rw [blockAfter]
    rcases b.pushTx_cases x with ⟨hs, e⟩ | ⟨hs, _, e⟩ | ⟨hs, _, e⟩ <;> rw [e]
    · exact .raised (.inr (.inr ⟨hs, .inl ⟨x, rfl⟩⟩)) (by simp) rfl rfl
    · exact .kept (by simp [RaisesAccErr, hs]) (by simp) rfl
    · exact .kept (by simp [RaisesAccErr, hs]) (by simp) rfl
  case txSeal =>
    rw [blockAfter]
    rcases b.sealTx_cases with ⟨hs, e⟩ | ⟨hs, _, e⟩ | ⟨hs, _, e⟩ <;> rw [e]
    · exact .raised (.inr (.inr ⟨hs, .inr rfl⟩)) (by simp) rfl rfl
    · exact .kept (by simp [RaisesAccErr, hs]) (by simp) rfl
    · exact .kept (by simp [RaisesAccErr, hs]) (by simp) rfl
  case errClear | softReset => exact .lowered (by simp [RaisesAccErr]) (by simp) rfl
  all_goals
    exact .kept (by simp [RaisesAccErr]) (by simp) (accErr_blockAfter_of_not_writesAccErr rfl b)

/-- Settles O55: the change of each flag, read from the flag down and from the flag up. -/
theorem stickyFlagsHaveTheirCauses : Obligations.StickyFlagsHaveTheirCauses := by
  intro i s t hbounds h
  obtain ⟨hblk, _, _⟩ := exec_inversion h
  obtain ⟨_, hfits⟩ := (bufferBounds_iff s.blk).mp hbounds
  rw [hblk]
  have hrx := rxOvf_stickyChange i s.blk
  have htx := txOvf_stickyChange i hfits
  have hacc := accErr_stickyChange i s.blk
  exact ⟨hrx.of_down, htx.of_down, hacc.of_down, hrx.of_up, htx.of_up, hacc.of_up⟩

end Sys2Proof.Machine
end

section
/-! PROOFS. Reset by the `rst` input and by SOFT_RESET, and one whole transaction: the request
encoded, the reply received and validated (spec/70_reset_and_hazards.md R250, R254, R261). -/

namespace Sys2Proof.Machine

/-! ### Reset (spec/70_reset_and_hazards.md R250) -/

theorem step_of_rst {s : State} {p : Option AccessWord} {rest : List PortInput}
    (h : s.inputs = ⟨true, p⟩ :: rest) :
    step s = .next (State.noAccess { s with blk := Block.reset, inputs := rest }) := by
  rw [step, h]

/-- Settles O7: the step under `rst` reads no access, and SOFT_RESET completes with the same
record. -/
theorem resetInputGivesTheResetRecord : Obligations.ResetInputGivesTheResetRecord :=
  ⟨fun _ _ _ => step_of_rst, fun _ => rfl⟩

/-! ### The exchange of a request and a reply (spec/41_frame_tx.md R135, spec/42_frame_rx.md R150,
R151) -/

/-- The record once the request of address `a`, function code `f` and payload `p` is sealed and the
bytes `reply` are received, RESULT still at NONE. -/
def Block.exchanged (b : Block) (a f : Byte) (p reply : List Byte) : Block :=
  { b.setOutcome noOutcome with
    reqAddr := a, reqFc := f,
    tx := encodeFrame a f (p.take 246), txSealed := true, txOvf := decide (246 < p.length),
    rx := reply.take 250, rxOvf := decide (250 < reply.length) }

section
variable (b : Block) (a f : Byte) (p reply : List Byte)

@[simp] theorem Block.exchanged_reqAddr : (b.exchanged a f p reply).reqAddr = a := rfl
@[simp] theorem Block.exchanged_reqFc : (b.exchanged a f p reply).reqFc = f := rfl

end

/-- The request registers written, `rx` emptied, and a frame begun with the two bytes. -/
theorem run_startExchange (a f : Byte) (s : State) :
    ∃ t, runAccesses [.wrReqAddr a, .wrReqFc f, .rxClear, .txStart] s = .next t ∧
      t.blk = ((s.blk.setReqAddr a).setReqFc f).clearRx.startTx :=
  ⟨_, rfl, rfl⟩

/-- The accesses before CHECK: the payload is cut at the trailer's room, the frame is sealed, and
the reply is cut at the buffer's end. -/
theorem run_exchange (a f : Byte) (p reply : List Byte) (s : State) :
    ∃ t, runAccesses ([.wrReqAddr a, .wrReqFc f, .rxClear, .txStart] ++ p.map .wrTxIn ++
        [.txSeal] ++ reply.map .wrRxIn) s = .next t ∧
      t.blk = s.blk.exchanged a f p reply := by
  obtain ⟨t₁, hstart, hblk₁⟩ := run_startExchange a f s
  obtain ⟨t₂, hpush, hblk₂⟩ := run_pushTx p t₁ (by rw [hblk₁]; rfl) (by rw [hblk₁]; simp)
  have htx : t₂.blk.tx = [a, f] ++ p.take 246 := by simp [hblk₂, hblk₁]
  have hlen : t₂.blk.tx.length ≤ 248 := by simp [htx]; omega
  obtain ⟨t₃, hseal, hblk₃⟩ := run_sealFrame (s := t₂) (by rw [hblk₂, hblk₁]; rfl) hlen
  have hrx : t₃.blk.rx = [] := by rw [hblk₃, hblk₂, hblk₁]; rfl
  obtain ⟨t₄, hreply, hblk₄⟩ := run_pushRx_full reply t₃ (by simp [hrx])
  refine ⟨t₄, ?_, ?_⟩
  · simp only [List.append_assoc]
    rw [runAccesses_append _ hstart, runAccesses_append _ hpush, runAccesses_append _ hseal, hreply]
  · have hovf : decide (248 < 2 + p.length) = decide (246 < p.length) := by
      rw [decide_eq_decide]
      omega
    rw [hblk₄, hrx, hblk₃, htx, hblk₂, hblk₁]
    simp [Block.exchanged, Block.setOutcome, Block.setSealed, Block.setTx, Block.startTx,
      Block.clearRx, Block.setRx, Block.setReqFc, Block.setReqAddr, encodeFrame, hovf]

/-! ### The validated outcome of an encoded reply (spec/42_frame_rx.md R159, R162, R180) -/

/-- A reply encoded with the requested function code is judged by its address alone. -/
theorem validate_encodeFrame (a ra : Byte) {f : Byte} (hf : f ≤ 127#8) {q : List Byte}
    (hq : q ≠ []) :
    validate (decodeFrame (encodeFrame ra f q)) a f =
      ⟨if a = 250#8 ∨ ra = a then resOk else resWrongAddress, ra, f, 0#8, 0#8,
        crc16 ([ra, f] ++ q), crc16 ([ra, f] ++ q), BitVec.ofNat 8 q.length⟩ := by
  rw [decodeFrame_encodeFrame ra hf hq]
  by_cases h : a = 250#8 ∨ ra = a
  · rw [if_pos h, validate_of_match rfl rfl h]
  · obtain ⟨ha, hra⟩ := not_or.mp h
    rw [if_neg h, validate_of_otherAddr rfl rfl ha hra]

/-! ### A whole transaction (spec/70_reset_and_hazards.md R254, R261) -/

/-- CHECK answers OK exactly where no cause of another code holds. -/
theorem result_check_ok_iff (b : Block) :
    (validate (decodeFrame b.rx) b.reqAddr b.reqFc).result = 0x01#8 ↔
      ¬b.TooShort ∧ ¬b.ErrorReply ∧ ¬b.CrcDiffers ∧ ¬b.OtherFunctionCode ∧ ¬b.OtherAddress := by
  obtain ⟨⟨t, ht, _, _, _, _, _, hok⟩, _⟩ := firstFailureIsReported { State.reset with blk := b }
  rwa [result_of_check ht] at hok

/-- Settles O60: the exchange leaves the reply in `rx`, CHECK writes its validated outcome and
nothing else, and an encoded reply that fits is received whole. -/
theorem transactionValidatesItsReply : Obligations.TransactionValidatesItsReply := by
  intro s a f p reply
  obtain ⟨u, hrun, hblk⟩ := run_exchange a f p reply s
  refine ⟨_, runAccesses_append [.check] hrun, ?_⟩
  rw [State.completeWrite_blk, hblk]
  refine ⟨⟨rfl, rfl, rfl⟩, ⟨rfl, rfl⟩, ⟨rfl, rfl⟩, rfl,
    result_check_ok_iff (s.blk.exchanged a f p reply), fun ra q hf hne hq hreply => ?_⟩
  have hlen : reply.length ≤ 250 := by
    rw [hreply, encodeFrame_length]
    omega
  have hrx : (s.blk.exchanged a f p reply).rx = encodeFrame ra f q :=
    (List.take_of_length_le hlen).trans hreply
  have hovf : (s.blk.exchanged a f p reply).rxOvf = false := decide_eq_false hlen.not_gt
  have hpay : (BitVec.ofNat 8 q.length).toNat = q.length := by
    rw [BitVec.toNat_ofNat]
    omega
  rw [Block.setOutcome_rxOvf, hovf, Block.setOutcome_rx, hrx, Block.exchanged_reqAddr,
    Block.exchanged_reqFc, validate_encodeFrame a ra hf hne]
  exact ⟨rfl, rfl, rfl, hpay, encodeFrame_payload ra f q, rfl⟩

end Sys2Proof.Machine
end
